-- ==== Sys2Proof/Word.lean ====
section
/-! DEFINITION. The bit vectors RC5C works on (00_scope.md R1, R3; 30_encoding.md R60, R61). -/

namespace Sys2Proof

/-- A byte of key material or block data. -/
abbrev Byte := BitVec 8

/-- A word: W = 32 bits, unsigned (R1). -/
abbrev Word := BitVec 32

/-- A command word `cmd[39:0]` (R60). -/
abbrev Command := BitVec 40

/-- A Block: exactly two words, `word_a` and `word_b` (R3). -/
structure Block where
  a : Word
  b : Word
deriving DecidableEq, Repr

end Sys2Proof
end

