-- ==== Sys2Proof/Syntax.lean ====
section
/-! DEFINITION. The 18 commands of RC5C (30_encoding.md R66), their formats and their assembler form (R70). -/

namespace Sys2Proof

/-- The commands with their operands, one constructor per row of the opcode table (R66). Operands have the widths of
their formats (R62 to R65), so every value of this type has an encoding. -/
inductive Instr where
  /-- no operation (R160) -/
  | nop
  /-- read the status register (R161) -/
  | rdst
  /-- read the configuration (R162) -/
  | rdcf
  /-- clear the sticky error bits (R163) -/
  | clre
  /-- soft reset (R164) -/
  | srst
  /-- clear the key material (R120) -/
  | kclr
  /-- append one byte of key material (R121) -/
  | kpush (imm8 : Byte)
  /-- construct the Cipher Instance (R127) -/
  | kexp
  /-- clear the block byte buffer (R106) -/
  | bclr
  /-- append one byte to the block byte buffer (R107) -/
  | bpush (imm8 : Byte)
  /-- convert the buffered bytes into the block registers (R108) -/
  | pack
  /-- read byte `k` of the block (R109) -/
  | rdb (k : BitVec 3)
  /-- load block register 0 (R110) -/
  | ldx0 (imm32 : Word)
  /-- load block register 1 (R111) -/
  | ldx1 (imm32 : Word)
  /-- read block register 0 (R112) -/
  | rdx0
  /-- read block register 1 (R113) -/
  | rdx1
  /-- encrypt the block in place (R142) -/
  | enc
  /-- decrypt the block in place (R145) -/
  | dec
deriving DecidableEq, Repr

/-- The four operand formats (R60). -/
inductive Format where
  /-- no operand (R62) -/
  | N
  /-- byte operand (R63) -/
  | B
  /-- word operand (R64) -/
  | W
  /-- byte index operand (R65) -/
  | I
deriving DecidableEq, Repr

/-- The 18 mnemonics (R66). -/
inductive Mnemonic where
  | nop | rdst | rdcf | clre | srst
  | kclr | kpush | kexp
  | bclr | bpush | pack | rdb | ldx0 | ldx1 | rdx0 | rdx1
  | enc | dec
deriving DecidableEq, Repr

/-- All mnemonics, in the order of the opcode table. -/
def Mnemonic.all : List Mnemonic :=
  [.nop, .rdst, .rdcf, .clre, .srst, .kclr, .kpush, .kexp, .bclr, .bpush, .pack, .rdb, .ldx0, .ldx1, .rdx0, .rdx1,
    .enc, .dec]

/-- The mnemonic of a command. -/
def Instr.mnemonic : Instr → Mnemonic
  | .nop => .nop
  | .rdst => .rdst
  | .rdcf => .rdcf
  | .clre => .clre
  | .srst => .srst
  | .kclr => .kclr
  | .kpush _ => .kpush
  | .kexp => .kexp
  | .bclr => .bclr
  | .bpush _ => .bpush
  | .pack => .pack
  | .rdb _ => .rdb
  | .ldx0 _ => .ldx0
  | .ldx1 _ => .ldx1
  | .rdx0 => .rdx0
  | .rdx1 => .rdx1
  | .enc => .enc
  | .dec => .dec

/-- The format the opcode selects (R62 to R66). -/
def Mnemonic.format : Mnemonic → Format
  | .nop | .rdst | .rdcf | .clre | .srst | .kclr | .kexp | .bclr | .pack | .rdx0 | .rdx1 | .enc | .dec => .N
  | .kpush | .bpush => .B
  | .ldx0 | .ldx1 => .W
  | .rdb => .I

/-- One line of assembler text once read: a mnemonic and the operand as the number written (R70). Unlike `Instr` it
can be out of range. -/
structure AsmLine where
  mnemonic : Mnemonic
  operand : Option Nat
deriving DecidableEq, Repr

end Sys2Proof
end

