-- ==== Sys2Proof/Decode.lean ====
section
/-! DEFINITION. Command words to commands and back (30_encoding.md R60 to R69). -/

namespace Sys2Proof

/-! ### Decoding -/

/-- Why a word is illegal (R68). The machine treats both alike. -/
inductive IllegalWord where
  /-- the opcode is none of the 18 (R67 step 1) -/
  | unassignedOpcode
  /-- a must-be-zero operand bit is 1 (R67 step 2) -/
  | operandBitSet
deriving DecidableEq, Repr

/-- What the decoder makes of a word. -/
inductive Decoded where
  | instr (i : Instr)
  | illegal (why : IllegalWord)
deriving DecidableEq, Repr

/-- `op = cmd[39:32]` (R60). -/
def opcodeField (c : Command) : BitVec 8 := c.extractLsb' 32 8

/-- `arg = cmd[31:0]` (R60); format W's `imm32` (R64). -/
def argField (c : Command) : Word := c.extractLsb' 0 32

/-- Format B's `imm8 = arg[7:0]` (R63). -/
def byteField (c : Command) : Byte := c.extractLsb' 0 8

/-- Format I's `k = arg[2:0]` (R65). -/
def indexField (c : Command) : BitVec 3 := c.extractLsb' 0 3

/-- The must-be-zero operand bits of a format are 0 (R62, R63, R65; format W has none, R64). -/
def Format.operandLegal : Format → Command → Bool
  | .N, c => argField c == 0
  | .B, c => c.extractLsb' 8 24 == (0 : BitVec 24)
  | .W, _ => true
  | .I, c => c.extractLsb' 3 29 == (0 : BitVec 29)

/-- The 18 assigned opcodes (R66). -/
def mnemonicOfOpcode (op : BitVec 8) : Option Mnemonic :=
  match op.toNat with
  | 0x00 => some .nop
  | 0x01 => some .rdst
  | 0x02 => some .rdcf
  | 0x03 => some .clre
  | 0x04 => some .srst
  | 0x10 => some .kclr
  | 0x11 => some .kpush
  | 0x12 => some .kexp
  | 0x20 => some .bclr
  | 0x21 => some .bpush
  | 0x22 => some .pack
  | 0x23 => some .rdb
  | 0x24 => some .ldx0
  | 0x25 => some .ldx1
  | 0x26 => some .rdx0
  | 0x27 => some .rdx1
  | 0x30 => some .enc
  | 0x31 => some .dec
  | _ => none

/-- The named command with the operand extracted as its format says (R67 step 3). -/
def Mnemonic.withOperand : Mnemonic → Command → Instr
  | .nop, _ => .nop
  | .rdst, _ => .rdst
  | .rdcf, _ => .rdcf
  | .clre, _ => .clre
  | .srst, _ => .srst
  | .kclr, _ => .kclr
  | .kpush, c => .kpush (byteField c)
  | .kexp, _ => .kexp
  | .bclr, _ => .bclr
  | .bpush, c => .bpush (byteField c)
  | .pack, _ => .pack
  | .rdb, c => .rdb (indexField c)
  | .ldx0, c => .ldx0 (argField c)
  | .ldx1, c => .ldx1 (argField c)
  | .rdx0, _ => .rdx0
  | .rdx1, _ => .rdx1
  | .enc, _ => .enc
  | .dec, _ => .dec

/-- Decoding, total on all 2^40 words, in the order of R67: the opcode, then the must-be-zero bits, then the
operand. -/
def decode (c : Command) : Decoded :=
  match mnemonicOfOpcode (opcodeField c) with
  | none => .illegal .unassignedOpcode
  | some m => if m.format.operandLegal c then .instr (m.withOperand c) else .illegal .operandBitSet

/-- The instruction, if the word is legal. -/
def Decoded.instr? : Decoded → Option Instr
  | .instr i => some i
  | .illegal _ => none

/-- The command word that a table word of `nbits` bits stands for: a command is one 40-bit word on a parallel port,
so no byte order enters (R60, R72; log 19). -/
def tableCommand (nbits w : Nat) : Command := BitVec.ofNat 40 (w % 2 ^ nbits)

/-- The instruction the decoder reads from a word numbered as spec/opcode_table.json numbers it. -/
def decodeTableWord (nbits w : Nat) : Option Instr := (decode (tableCommand nbits w)).instr?

/-! ### Encoding -/

/-- The opcode column of R66. -/
def Mnemonic.opcode : Mnemonic → BitVec 8
  | .nop => 0x00
  | .rdst => 0x01
  | .rdcf => 0x02
  | .clre => 0x03
  | .srst => 0x04
  | .kclr => 0x10
  | .kpush => 0x11
  | .kexp => 0x12
  | .bclr => 0x20
  | .bpush => 0x21
  | .pack => 0x22
  | .rdb => 0x23
  | .ldx0 => 0x24
  | .ldx1 => 0x25
  | .rdx0 => 0x26
  | .rdx1 => 0x27
  | .enc => 0x30
  | .dec => 0x31

/-- The 32-bit operand field of a command (R62 to R65). -/
def Instr.arg : Instr → Word
  | .kpush imm8 => (0 : BitVec 24) ++ imm8
  | .bpush imm8 => (0 : BitVec 24) ++ imm8
  | .rdb k => (0 : BitVec 29) ++ k
  | .ldx0 imm32 => imm32
  | .ldx1 imm32 => imm32
  | .nop | .rdst | .rdcf | .clre | .srst | .kclr | .kexp | .bclr | .pack | .rdx0 | .rdx1 | .enc | .dec => 0

/-- The command word of a command: the opcode over the operand field (R60, R66). -/
def encode (i : Instr) : Command := i.mnemonic.opcode ++ i.arg

/-- The match column of R66. -/
def Mnemonic.matchBits : Mnemonic → Command
  | .nop => 0x0000000000
  | .rdst => 0x0100000000
  | .rdcf => 0x0200000000
  | .clre => 0x0300000000
  | .srst => 0x0400000000
  | .kclr => 0x1000000000
  | .kpush => 0x1100000000
  | .kexp => 0x1200000000
  | .bclr => 0x2000000000
  | .bpush => 0x2100000000
  | .pack => 0x2200000000
  | .rdb => 0x2300000000
  | .ldx0 => 0x2400000000
  | .ldx1 => 0x2500000000
  | .rdx0 => 0x2600000000
  | .rdx1 => 0x2700000000
  | .enc => 0x3000000000
  | .dec => 0x3100000000

/-- The mask column of R66. -/
def Format.maskBits : Format → Command
  | .N => 0xFFFFFFFFFF
  | .B => 0xFFFFFFFF00
  | .W => 0xFF00000000
  | .I => 0xFFFFFFFFF8

end Sys2Proof
end

