-- ==== Sys2Proof/Config.lean ====
section
/-! DEFINITION. What is fixed for one RC5C instance: the constants of 00_scope.md R1 to R8, the configuration
record, and the free values (constants without a body) that stand for what the spec leaves unspecified. -/

namespace Sys2Proof

/-- The configuration of one instance (R8). `rounds` is ROUNDS, 0..255 (R5), and `tableWords` is S, 0..1023 (R6 and
92_eei_decisions.md D3); W is the constant 32 (R1), so a configuration outside these ranges cannot be written down
(93_implementation_defined.md U15, log 4). -/
structure Cfg where
  rounds : BitVec 8
  tableWords : BitVec 10
deriving DecidableEq, Repr

/-- The default configuration: ROUNDS = 12, S = 26 (R8). -/
def Cfg.default : Cfg := { rounds := 12, tableWords := 26 }

namespace Config

/-- W, the word width in bits (R1). -/
def wordWidth : Nat := 32

/-- MASK = W - 1 (R2). -/
def rotMask : Word := 31

/-- KMAX, the longest key in bytes (R4). -/
def keyMax : Nat := 255

/-- P (R7). -/
def magicP : Word := 0xB7E15163

/-- Q (R7). -/
def magicQ : Word := 0x9E3779B9

/-- The pass count of the key mix (R8, R125). -/
def mixPasses : Nat := 3

/-- The fixed rotation of the key mix (R8, R125). -/
def mixRotate : Nat := 3

/-! ### Free values

Each is a constant without a body: nothing can be proved of its value. The first argument is the number of free
values drawn before (`State.draws`), so each draw is a value of its own. -/

/-- `KB[i]` after `rst` (10_state.md R26, log 7). -/
opaque freeKB : Nat → Nat → Byte

/-- `BB[i]` after `rst` (R26, log 7). -/
opaque freeBB : Nat → Nat → Byte

/-- `L[j]` after `rst` (R26, log 7). -/
opaque freeL : Nat → Nat → Word

/-- The working register `MA` between commands (R21, R26, 93_implementation_defined.md U7; log 8). -/
opaque freeMA : Nat → Word

/-- The working register `MB` between commands (U7, log 8). -/
opaque freeMB : Nat → Word

/-- The working register `MI` between commands (U7, log 8). -/
opaque freeMI : Nat → BitVec 10

/-- The working register `MJ` between commands (U7, log 8). -/
opaque freeMJ : Nat → BitVec 7

/-- The working register `MN` between commands (U7, log 8). -/
opaque freeMN : Nat → BitVec 11

/-- The working register `RC` between commands (U7, log 8). -/
opaque freeRC : Nat → BitVec 8

/-- What reading an entry past the end of a word array gives. No reachable state reads one (20_memory.md R42,
log 12). -/
opaque absentWord : Nat → Word

end Config

end Sys2Proof
end

