-- ==== Sys2Proof/Machine/State.lean ====
section
/-! DEFINITION. The state of RC5C (10_state.md) and its ports (30_encoding.md section 1), as plain data, and the
state after reset. -/

namespace Sys2Proof.Machine

/-- The five error causes (60_exceptions.md R180). -/
inductive Error where
  /-- E_KEYLEN: more than 255 key bytes were offered (R181) -/
  | keyLen
  /-- E_TABLE: inconsistent round-key table size (R182) -/
  | table
  /-- E_NOKEY: no Cipher Instance exists (R183) -/
  | noKey
  /-- E_BOVF: the block byte buffer is full (R184) -/
  | bovf
  /-- E_ILLEGAL: the command word is illegal (R185) -/
  | illegal
deriving DecidableEq, Repr

/-- A response (30_encoding.md R61): success with data, or one of the five errors, whose data is 0. The codes 6 to 15
cannot be written down (93_implementation_defined.md U13). -/
inductive Response where
  | ok (data : Word)
  | error (e : Error)
deriving DecidableEq, Repr

/-- What the host does at its ports (10_state.md R10): it offers a command word, or asserts `rst`. -/
inductive PortInput where
  | command (w : Command)
  | rst
deriving DecidableEq, Repr

/-- The reasons the machine stops. It has none: "Nothing in RC5C is `stuck`" (93_implementation_defined.md), and every
error is a response after which the core runs on (60_exceptions.md R186; log 16). No constructor: nothing raises
one. -/
inductive Fault : Type where
deriving DecidableEq, Repr

/-- The reasons an instruction has no meaning in the model. -/
inductive Refusal where
  /-- an instruction without a meaning yet; raised by no arm of `exec` now, and safe: the model stops -/
  | notModelled (mnemonic : String)
deriving DecidableEq, Repr

/-- The state (10_state.md section 2). `cfg` is the configuration, which nothing writes (00_scope.md R8, log 3);
`inbox` and `rsp` are the two ports (log 1, log 10); `draws` is the model's own count of free values drawn (log 9). -/
structure State where
  /-- ROUNDS and S (R8) -/
  cfg : Cfg
  /-- `X[0]` (R11) -/
  x0 : Word
  /-- `X[1]` (R11) -/
  x1 : Word
  /-- `KB[0..254]` (R12) -/
  kb : Vector Byte 255
  /-- `KLEN`, 0..256 (R12) -/
  klen : BitVec 9
  /-- `BB[0..7]` (R13) -/
  bb : Vector Byte 8
  /-- `BLEN`, 0..8 (R13) -/
  blen : BitVec 4
  /-- `L[0..63]` (R14) -/
  l : Vector Word 64
  /-- `LC`, 0..64 (R14) -/
  lc : BitVec 7
  /-- `T[0..S-1]` (R15) -/
  t : List Word
  /-- `KV` (R16) -/
  kv : Bool
  /-- `EK` (R19) -/
  ek : Bool
  /-- `EKL` (R20) -/
  ekl : Bool
  /-- `ETB` (R20) -/
  etb : Bool
  /-- `ENK` (R20) -/
  enk : Bool
  /-- `EBO` (R20) -/
  ebo : Bool
  /-- `EIL` (R20) -/
  eil : Bool
  /-- `MA`, a working register (R21) -/
  ma : Word
  /-- `MB` (R21) -/
  mb : Word
  /-- `MI` (R21) -/
  mi : BitVec 10
  /-- `MJ` (R21) -/
  mj : BitVec 7
  /-- `MN` (R21) -/
  mn : BitVec 11
  /-- `RC` (R21) -/
  rc : BitVec 8
  /-- the host's inputs still to come -/
  inbox : List PortInput
  /-- the response of the last accepted command, if one is present -/
  rsp : Option Response
  /-- free values drawn so far (the model's own) -/
  draws : Nat
deriving DecidableEq, Repr

/-- The state right after power-up of an instance of configuration `c`: every scalar and both block registers 0
(10_state.md R24, R25); the arrays and the working registers, which R26 leaves unspecified, hold zeros (DESIGN CHOICE,
log 5 and log 6); no input is queued and no response is present (log 1, log 10). -/
def State.resetWith (c : Cfg) : State where
  cfg := c
  x0 := 0
  x1 := 0
  kb := Vector.replicate 255 0
  klen := 0
  bb := Vector.replicate 8 0
  blen := 0
  l := Vector.replicate 64 0
  lc := 0
  t := List.replicate c.tableWords.toNat 0
  kv := false
  ek := false
  ekl := false
  etb := false
  enk := false
  ebo := false
  eil := false
  ma := 0
  mb := 0
  mi := 0
  mj := 0
  mn := 0
  rc := 0
  inbox := []
  rsp := none
  draws := 0

/-- The machine right after reset, at the default configuration (00_scope.md R8). -/
def State.reset : State := State.resetWith Cfg.default

end Sys2Proof.Machine
end

