-- ==== Sys2Proof/WellFormed.lean ====
section
/-! DEFINITION. The two checks of the spec: a configuration is well formed (00_scope.md R8), and an assembler line
has the operand its format asks for, in range (30_encoding.md R70). A value of `Instr` needs no check: its operands
have the exact widths of their fields. -/

namespace Sys2Proof

/-- `S = 2*(ROUNDS+1)`; W = 32 and the range of ROUNDS hold by the types (R8). -/
abbrev Cfg.WellFormed (c : Cfg) : Prop :=
  c.tableWords.toNat = 2 * (c.rounds.toNat + 1)

/-- The operand of a line of the given format is present exactly when the format has one, and is at most 255 for B,
0xFFFFFFFF for W, 7 for I (R70). -/
def Format.admits : Format → Option Nat → Bool
  | .N, none => true
  | .B, some v => v ≤ 255
  | .W, some v => v ≤ 0xFFFFFFFF
  | .I, some v => v ≤ 7
  | _, _ => false

/-- The line is no assembly error (R70). -/
abbrev AsmLine.WellFormed (l : AsmLine) : Prop :=
  l.mnemonic.format.admits l.operand = true

end Sys2Proof
end

