-- ==== Sys2Proof/Machine/Flags.lean ====
section
/-! DEFINITION. Error codes, the response word, the sticky bits and the two read-only views (10_state.md R17, R18,
R20; 30_encoding.md R61; 60_exceptions.md R180). -/

namespace Sys2Proof.Machine

/-- The 4-bit code of a cause (60_exceptions.md R180). -/
def Error.code : Error → BitVec 4
  | .keyLen => 1
  | .table => 2
  | .noKey => 3
  | .bovf => 4
  | .illegal => 5

/-- `rsp[35:32]` (30_encoding.md R61). -/
def Response.err : Response → BitVec 4
  | .ok _ => 0
  | .error e => e.code

/-- `rsp[31:0]` (R61): 0 when `err` is not 0. -/
def Response.data : Response → Word
  | .ok d => d
  | .error _ => 0

/-- The 36-bit response word (R61). -/
def Response.bits (r : Response) : BitVec 36 := r.err ++ r.data

/-- The sticky bit of a cause (60_exceptions.md R180). -/
def State.sticky (s : State) : Error → Bool
  | .keyLen => s.ekl
  | .table => s.etb
  | .noKey => s.enk
  | .bovf => s.ebo
  | .illegal => s.eil

/-- Set the sticky bit of a cause (R180, R186). -/
def State.setSticky (s : State) : Error → State
  | .keyLen => { s with ekl := true }
  | .table => { s with etb := true }
  | .noKey => { s with enk := true }
  | .bovf => { s with ebo := true }
  | .illegal => { s with eil := true }

/-- Clear the five sticky bits (44_control_and_instance.md R163). -/
def State.clearSticky (s : State) : State :=
  { s with ekl := false, etb := false, enk := false, ebo := false, eil := false }

/-- `STATUS` (10_state.md R17), from bit 31 down: reserved, BLEN, KLEN, reserved, EIL, EBO, ENK, ETB, EKL, reserved,
EK, KV. -/
def State.status (s : State) : Word :=
  (0 : BitVec 3) ++ s.blen ++ s.klen ++ (0 : BitVec 3)
    ++ BitVec.ofBool s.eil ++ BitVec.ofBool s.ebo ++ BitVec.ofBool s.enk ++ BitVec.ofBool s.etb ++ BitVec.ofBool s.ekl
    ++ (0 : BitVec 6) ++ BitVec.ofBool s.ek ++ BitVec.ofBool s.kv

/-- `CONFIG` (10_state.md R18): `(6'b0, S[9:0], ROUNDS[7:0], 8'd32)` (44_control_and_instance.md R162). -/
def configWord (c : Cfg) : Word :=
  (0 : BitVec 6) ++ c.tableWords ++ c.rounds ++ BitVec.ofNat 8 Config.wordWidth

end Sys2Proof.Machine
end

