-- ==== Sys2Proof/Machine/Datapath.lean ====
section
/-! DEFINITION. The word operations of 40_datapath_primitives.md. None records anything besides its result (R90). -/

namespace Sys2Proof.Machine

/-- ADD32 (R80): addition modulo 2^32. -/
def add32 (a b : Word) : Word := a + b

/-- SUB32 (R81): subtraction modulo 2^32. -/
def sub32 (a b : Word) : Word := a - b

/-- XOR32 (R82). -/
def xor32 (a b : Word) : Word := a ^^^ b

/-- AND32 (R83). -/
def and32 (a b : Word) : Word := a &&& b

/-- A rotation amount: a word ANDed with MASK, 0 to 31 (R83, R84). -/
def rotAmount (v : Word) : Nat := (and32 v Config.rotMask).toNat

/-- ROTL32 (R85): `((x * 2^n) mod 2^32) + (x div 2^(32-n))`, for `0 <= n <= 31`. -/
def rotl (x : Word) (n : Nat) : Word :=
  BitVec.ofNat 32 (x.toNat * 2 ^ n % 2 ^ 32 + x.toNat / 2 ^ (32 - n))

/-- ROTR32 (R86): `(x div 2^n) + ((x * 2^(32-n)) mod 2^32)`, for `0 <= n <= 31`. -/
def rotr (x : Word) (n : Nat) : Word :=
  BitVec.ofNat 32 (x.toNat / 2 ^ n + x.toNat * 2 ^ (32 - n) % 2 ^ 32)

/-- BSWAP32 (R88): the four bytes in reverse order. -/
def bswap (x : Word) : Word :=
  x.extractLsb' 0 8 ++ x.extractLsb' 8 8 ++ x.extractLsb' 16 8 ++ x.extractLsb' 24 8

/-- Entry `i` of a word array. Within the array it is the entry; past its end, where no rule reads (20_memory.md R42),
it is a free value (log 12). -/
def entry (ws : List Word) (i : Nat) : Word := ws.getD i (Config.absentWord i)

end Sys2Proof.Machine
end

