-- ==== Sys2Proof/Machine/Converter.lean ====
section
/-! DEFINITION. The word/byte converter, `B2W` and `W2B` (41_converter.md R100 to R105). Eager (R105). -/

namespace Sys2Proof.Machine

/-- The accumulator of R100 after the bytes of a chunk in stream order: shift left one byte, insert at the bottom. -/
def accumulate (chunk : List Byte) : Word :=
  chunk.foldl (fun acc b => add32 (acc <<< 8) (b.setWidth 32)) 0

/-- The word of one chunk of 1 to 4 bytes (R100): the accumulator with its bytes reversed, so a partial chunk lands in
the high byte lanes (R102). -/
def chunkWord (chunk : List Byte) : Word := bswap (accumulate chunk)

/-- `B2W` (R100): chunks of four bytes, the last one possibly partial. -/
def b2w : List Byte → List Word
  | [] => []
  | b0 :: b1 :: b2 :: b3 :: rest => chunkWord [b0, b1, b2, b3] :: b2w rest
  | short => [chunkWord short]

/-- Byte `t` of a word, bits `8t+7` to `8t` (R103). -/
def byteOfWord (w : Word) (t : Nat) : Byte := w.extractLsb' (8 * t) 8

/-- The four bytes of a word, least significant first (R103). -/
def wordBytes (w : Word) : List Byte := [byteOfWord w 0, byteOfWord w 1, byteOfWord w 2, byteOfWord w 3]

/-- `W2B` (R103). -/
def w2b (ws : List Word) : List Byte := ws.flatMap wordBytes

/-- The block PACK forms from buffered bytes (R108): the words of `B2W`, a missing word being 0. -/
def packBlock (bytes : List Byte) : Block :=
  let ws := b2w bytes
  { a := ws.getD 0 0, b := ws.getD 1 0 }

end Sys2Proof.Machine
end

