-- ==== Sys2Proof/Machine/KeySchedule.lean ====
section
/-! DEFINITION. The key schedule engine (42_key_schedule.md R122 to R129). -/

namespace Sys2Proof.Machine

/-- `n` table words, each Q more than the one before, from `w` on. -/
def seedFrom : Nat → Word → List Word
  | 0, _ => []
  | n + 1, w => w :: seedFrom n (add32 w Config.magicQ)

/-- Phase 2 (R124): the key-independent seed of a table of `size` words. -/
def seed (size : Nat) : List Word := seedFrom size Config.magicP

/-- What the mix loop carries from one iteration to the next (R125): the running words and indices, the table and the
key words. -/
structure Mix where
  a : Word
  b : Word
  i : Nat
  j : Nat
  t : List Word
  l : List Word
deriving DecidableEq, Repr

/-- One iteration of R125. The second half, which uses the `a` just computed and the old `b`, is skipped when there
are no key words (R128). -/
def mixStep (m : Mix) : Mix :=
  let a := rotl (add32 (add32 (entry m.t m.i) m.a) m.b) Config.mixRotate
  let t := m.t.set m.i a
  let i := (m.i + 1) % m.t.length
  if 0 < m.l.length then
    let b := rotl (add32 (add32 (entry m.l m.j) a) m.b) (rotAmount (add32 a m.b))
    { a := a, b := b, i := i, j := (m.j + 1) % m.l.length, t := t, l := m.l.set m.j b }
  else
    { m with a := a, i := i, t := t }

/-- `n` iterations. -/
def mixRun : Nat → Mix → Mix
  | 0, m => m
  | n + 1, m => mixRun n (mixStep m)

/-- The number of iterations of the mix: `3 * max(S, c)` (R125). -/
def mixCount (size keyWords : Nat) : Nat := Config.mixPasses * max size keyWords

/-- The mix before its first iteration: phases 1 and 2 done, `a`, `b`, `i`, `j` all 0 (R123, R124, R125). -/
def mixStart (key : List Byte) (size : Nat) : Mix :=
  { a := 0, b := 0, i := 0, j := 0, t := seed size, l := b2w key }

/-- Phases 1 to 3 on the key bytes, for a table of `size` words, with the by-products of R126. -/
def keySchedule (key : List Byte) (size : Nat) : Mix :=
  mixRun (mixCount size (b2w key).length) (mixStart key size)

/-- `Expand` (R126): the round-key table. -/
def expand (key : List Byte) (size : Nat) : List Word := (keySchedule key size).t

end Sys2Proof.Machine
end

