-- ==== Sys2Proof/Machine/Operands.lean ====
section
/-! DEFINITION. The operand forms: the numbered block registers (30_encoding.md R64), the block as two words and as
eight bytes (R65, 41_converter.md R109), and the two byte sequences the buffers hold (10_state.md R12, R13). -/

namespace Sys2Proof.Machine

/-- Block register `X[r]` (10_state.md R11). -/
def State.readX (s : State) (r : BitVec 1) : Word := if r = 0 then s.x0 else s.x1

/-- `X[r] <- v`. -/
def State.writeX (s : State) (r : BitVec 1) (v : Word) : State :=
  if r = 0 then { s with x0 := v } else { s with x1 := v }

/-- The Block in `X` (R11). -/
def State.block (s : State) : Block := { a := s.x0, b := s.x1 }

/-- Write both block registers. -/
def State.writeBlock (s : State) (p : Block) : State := { s with x0 := p.a, x1 := p.b }

/-- Byte `k` of the block: `W2B([X[0], X[1]])[k]` (41_converter.md R109). -/
def State.blockByte (s : State) (k : BitVec 3) : Byte := (w2b [s.x0, s.x1]).getD k.toNat 0

/-- A byte as response data: `zext_32` (R109). -/
def byteData (b : Byte) : Word := b.setWidth 32

/-- A flag as response data: bit 0, bits 31:1 zero (42_key_schedule.md R127). -/
def flagData (f : Bool) : Word := (BitVec.ofBool f).setWidth 32

/-- The key bytes the buffer holds, `KB[0 .. KLEN-1]`; with `KLEN = 256` the first 255 (10_state.md R12). -/
def State.keyMaterial (s : State) : List Byte := s.kb.toList.take s.klen.toNat

/-- The buffered block bytes `BB[0 .. BLEN-1]` (10_state.md R13). -/
def State.blockBytes (s : State) : List Byte := s.bb.toList.take s.blen.toNat

end Sys2Proof.Machine
end

