-- ==== Sys2Proof/Machine/RoundFunction.lean ====
section
/-! DEFINITION. The round-function datapath (43_round_function.md R140 to R150). -/

namespace Sys2Proof.Machine

/-- The forward half-round `HRF(u, v, k)` (R141). -/
def hrf (u v k : Word) : Word := add32 (rotl (xor32 u v) (rotAmount v)) k

/-- The inverse half-round `HRI(u, v, k)` (R144). -/
def hri (u v k : Word) : Word := xor32 (rotr (sub32 u k) (rotAmount v)) v

/-- Encryption round `r`: `a` first, then `b` with the new `a` (R140, R149, R150). -/
def encRound (t : List Word) (r : Nat) (x : Block) : Block :=
  let a := hrf x.a x.b (entry t (2 * r))
  { a := a, b := hrf x.b a (entry t (2 * r + 1)) }

/-- Encryption rounds 1 to `r`, ascending (R140 step 2). -/
def encRounds (t : List Word) : Nat → Block → Block
  | 0, x => x
  | r + 1, x => encRound t (r + 1) (encRounds t r x)

/-- `Encrypt(T, R, [p0, p1])` (R140). -/
def encrypt (t : List Word) (rounds : Nat) (p : Block) : Block :=
  encRounds t rounds { a := add32 p.a (entry t 0), b := add32 p.b (entry t 1) }

/-- Decryption round `r`: `b` first, then `a` with the restored `b` (R143, R149). -/
def decRound (t : List Word) (r : Nat) (x : Block) : Block :=
  let b := hri x.b x.a (entry t (2 * r + 1))
  { a := hri x.a b (entry t (2 * r)), b := b }

/-- Decryption rounds `r` to 1, descending (R143 step 2). -/
def decRounds (t : List Word) : Nat → Block → Block
  | 0, x => x
  | r + 1, x => decRounds t r (decRound t (r + 1) x)

/-- `Decrypt(T, R, [c0, c1])` (R143). -/
def decrypt (t : List Word) (rounds : Nat) (c : Block) : Block :=
  let x := decRounds t rounds c
  { a := sub32 x.a (entry t 0), b := sub32 x.b (entry t 1) }

end Sys2Proof.Machine
end

