-- ==== Sys2Proof/Machine/Ops.lean ====
section
/-! DEFINITION. The shared operations on the state: responses, taking an error, the two buffers, constructing and
ending a Cipher Instance, the block operations, the two resets and the command port. -/

namespace Sys2Proof.Machine

/-! ### Responses and errors -/

/-- `rsp <- (0, d)` (30_encoding.md R61). -/
def State.answer (s : State) (d : Word) : State := { s with rsp := some (.ok d) }

/-- Taking an error, `raise E` (60_exceptions.md R186): the response carries the code and data 0, the sticky bit of the
cause is set, the changes made before it stand, and nothing else changes. There is no return from it (R189): the core
takes the next command at once. -/
def State.raise (s : State) (e : Error) : State := { s.setSticky e with rsp := some (.error e) }

/-! ### The two byte buffers -/

/-- `KLEN <- 0` (42_key_schedule.md R120). -/
def State.clearKey (s : State) : State := { s with klen := 0 }

/-- Append a key byte (R121): up to 255 bytes are kept, the 256th is dropped but counted, later ones change
nothing. -/
def State.pushKey (s : State) (b : Byte) : State :=
  if s.klen.toNat ≤ 254 then { s with kb := s.kb.setIfInBounds s.klen.toNat b, klen := s.klen + 1 }
  else if s.klen.toNat = 255 then { s with klen := 256 }
  else s

/-- `BLEN <- 0` (41_converter.md R106). -/
def State.clearBlock (s : State) : State := { s with blen := 0 }

/-- `BB[BLEN] <- b`, `BLEN <- BLEN + 1` (R107). -/
def State.pushBlock (s : State) (b : Byte) : State :=
  { s with bb := s.bb.setIfInBounds s.blen.toNat b, blen := s.blen + 1 }

/-! ### The working registers -/

/-- What a command that ran the mix leaves in `MA`, `MB`, `MI`, `MJ`, `MN`: free values, since their contents between
commands are `any value` (10_state.md R21, 93_implementation_defined.md U7; log 8). -/
def State.leaveMixWork (s : State) : State :=
  { s with
    ma := Config.freeMA s.draws
    mb := Config.freeMB s.draws
    mi := Config.freeMI s.draws
    mj := Config.freeMJ s.draws
    mn := Config.freeMN s.draws
    draws := s.draws + 1 }

/-- What a block operation leaves in `MA`, `MB`, `RC`: free values (R21, U7; log 8). -/
def State.leaveRoundWork (s : State) : State :=
  { s with
    ma := Config.freeMA s.draws
    mb := Config.freeMB s.draws
    rc := Config.freeRC s.draws
    draws := s.draws + 1 }

/-! ### The Cipher Instance -/

/-- The key words written over the first entries of `L`; the entries from `LC` on keep their values
(42_key_schedule.md R123). -/
def fillKeyWords (l : Vector Word 64) (ws : List Word) : Vector Word 64 :=
  Vector.ofFn fun j : Fin 64 => ws[j.val]?.getD l[j]

/-- The commit of KEXP (R127) once the key schedule has run: `T` and `L` rewritten, `LC` the number of key words, `KV`
set, `EK` set exactly for the empty key. -/
def State.adopt (s : State) (m : Mix) : State :=
  { s with
    t := m.t
    l := fillKeyWords s.l m.l
    lc := BitVec.ofNat 7 m.l.length
    kv := true
    ek := decide (s.klen = 0) }

/-- Phases 1 to 3 and the commit of KEXP (R127), from the key bytes in `KB`. -/
def State.construct (s : State) : State := s.adopt (keySchedule s.keyMaterial s.cfg.tableWords.toNat)

/-- `KV <- 0 ; EK <- 0`: what a failing KEXP does before it raises its error (R127). -/
def State.endInstance (s : State) : State := { s with kv := false, ek := false }

/-- The checks of phase 0 (R122), key length first (60_exceptions.md R187). -/
def State.keyCheck (s : State) : Option Error :=
  if 255 < s.klen.toNat then some .keyLen
  else if s.cfg.tableWords.toNat < 2 ∨ ¬ s.cfg.WellFormed then some .table
  else none

/-! ### Block operations -/

/-- `X <- f(T, ROUNDS, X)` (43_round_function.md R142, R145). -/
def State.transformBlock (s : State) (f : List Word → Nat → Block → Block) : State :=
  s.writeBlock (f s.t s.cfg.rounds.toNat s.block)

/-! ### Resets -/

/-- What SRST clears (44_control_and_instance.md R164): all scalars and `X`; the arrays and the working registers keep
their contents (10_state.md R26). -/
def State.softReset (s : State) : State :=
  { s with
    klen := 0, blen := 0, lc := 0
    kv := false, ek := false
    ekl := false, etb := false, enk := false, ebo := false, eil := false
    x0 := 0, x1 := 0 }

/-- `rst` asserted (70_reset_and_hazards.md R211, R212): the scalars and `X` as R24 and R25 say; the words of `T` as they
are (42_key_schedule.md R131, 10_state.md R15); `KB`, `BB`, `L` and the working registers free values (R26, log 7); no
response present (log 10). The configuration is unaffected, and the host's later inputs stay queued (log 1). -/
def State.hardReset (s : State) : State :=
  { s.softReset with
    kb := Vector.ofFn fun i => Config.freeKB s.draws i
    bb := Vector.ofFn fun i => Config.freeBB s.draws i
    l := Vector.ofFn fun j => Config.freeL s.draws j
    ma := Config.freeMA s.draws
    mb := Config.freeMB s.draws
    mi := Config.freeMI s.draws
    mj := Config.freeMJ s.draws
    mn := Config.freeMN s.draws
    rc := Config.freeRC s.draws
    rsp := none
    draws := s.draws + 1 }

/-! ### The command port -/

/-- The host's next input and the state without it. -/
def State.takeInput (s : State) : Option (PortInput × State) :=
  match s.inbox with
  | [] => none
  | p :: rest => some (p, { s with inbox := rest })

/-- The host offers `p` next. -/
def State.offer (s : State) (p : PortInput) : State := { s with inbox := p :: s.inbox }

end Sys2Proof.Machine
end

