-- ==== Sys2Proof/Machine/BlockCommands.lean ====
section
/-! DEFINITION. The block operations (43_round_function.md). -/

namespace Sys2Proof.Machine

/-- ENC (R142): E_NOKEY without an instance, else `X` encrypted in place. -/
def execEnc (s : State) : Host.Outcome State Fault Refusal :=
  if s.kv then .next ((s.transformBlock encrypt).leaveRoundWork.answer 0) else .next (s.raise .noKey)

/-- DEC (R145): E_NOKEY without an instance, else `X` decrypted in place. -/
def execDec (s : State) : Host.Outcome State Fault Refusal :=
  if s.kv then .next ((s.transformBlock decrypt).leaveRoundWork.answer 0) else .next (s.raise .noKey)

end Sys2Proof.Machine
end

