-- ==== Sys2Proof/Machine/Control.lean ====
section
/-! DEFINITION. The control commands (44_control_and_instance.md). -/

namespace Sys2Proof.Machine

/-- NOP (R160). -/
def execNop (s : State) : Host.Outcome State Fault Refusal := .next (s.answer 0)

/-- RDST (R161): reading clears nothing. -/
def execRdst (s : State) : Host.Outcome State Fault Refusal := .next (s.answer s.status)

/-- RDCF (R162). -/
def execRdcf (s : State) : Host.Outcome State Fault Refusal := .next (s.answer (configWord s.cfg))

/-- CLRE (R163). -/
def execClre (s : State) : Host.Outcome State Fault Refusal := .next (s.clearSticky.answer 0)

/-- SRST (R164). -/
def execSrst (s : State) : Host.Outcome State Fault Refusal := .next (s.softReset.answer 0)

end Sys2Proof.Machine
end

