-- ==== Sys2Proof/Machine/DataCommands.lean ====
section
/-! DEFINITION. The converter and block data commands (41_converter.md). -/

namespace Sys2Proof.Machine

/-- BCLR (R106). -/
def execBclr (s : State) : Host.Outcome State Fault Refusal := .next (s.clearBlock.answer 0)

/-- BPUSH imm8 (R107): a ninth byte is dropped with E_BOVF. -/
def execBpush (imm8 : Byte) (s : State) : Host.Outcome State Fault Refusal :=
  if s.blen = 8 then .next (s.raise .bovf) else .next ((s.pushBlock imm8).answer 0)

/-- PACK (R108). -/
def execPack (s : State) : Host.Outcome State Fault Refusal :=
  .next (((s.writeBlock (packBlock s.blockBytes)).clearBlock).answer 0)

/-- RDB k (R109). -/
def execRdb (k : BitVec 3) (s : State) : Host.Outcome State Fault Refusal := .next (s.answer (byteData (s.blockByte k)))

/-- LDX0 imm32 (R110): format W with `r = op[0] = 0` (30_encoding.md R64). -/
def execLdx0 (imm32 : Word) (s : State) : Host.Outcome State Fault Refusal := .next ((s.writeX 0 imm32).answer 0)

/-- LDX1 imm32 (R111): `r = 1`. -/
def execLdx1 (imm32 : Word) (s : State) : Host.Outcome State Fault Refusal := .next ((s.writeX 1 imm32).answer 0)

/-- RDX0 (R112). -/
def execRdx0 (s : State) : Host.Outcome State Fault Refusal := .next (s.answer (s.readX 0))

/-- RDX1 (R113). -/
def execRdx1 (s : State) : Host.Outcome State Fault Refusal := .next (s.answer (s.readX 1))

end Sys2Proof.Machine
end

