-- ==== Sys2Proof/Machine/KeyCommands.lean ====
section
/-! DEFINITION. The key commands (42_key_schedule.md). -/

namespace Sys2Proof.Machine

/-- KCLR (R120). -/
def execKclr (s : State) : Host.Outcome State Fault Refusal := .next (s.clearKey.answer 0)

/-- KPUSH imm8 (R121): raises no error, whatever the length. -/
def execKpush (imm8 : Byte) (s : State) : Host.Outcome State Fault Refusal := .next ((s.pushKey imm8).answer 0)

/-- KEXP (R127): validate, and either end the instance and raise the error, or construct the instance and answer with
the empty-key advisory. -/
def execKexp (s : State) : Host.Outcome State Fault Refusal :=
  match s.keyCheck with
  | some e => .next (s.endInstance.raise e)
  | none => .next (s.construct.leaveMixWork.answer (flagData s.construct.ek))

end Sys2Proof.Machine
end

