-- ==== Sys2Proof/Machine/Dispatch.lean ====
section
/-! DEFINITION. One arm per command: the call of its meaning. -/

namespace Sys2Proof.Machine

def exec (i : Instr) (s : State) : Host.Outcome State Fault Refusal :=
  match i with
  | .nop => Sys2Proof.Machine.execNop s
  | .rdst => Sys2Proof.Machine.execRdst s
  | .rdcf => Sys2Proof.Machine.execRdcf s
  | .clre => Sys2Proof.Machine.execClre s
  | .srst => Sys2Proof.Machine.execSrst s
  | .kclr => Sys2Proof.Machine.execKclr s
  | .kpush imm8 => Sys2Proof.Machine.execKpush imm8 s
  | .kexp => Sys2Proof.Machine.execKexp s
  | .bclr => Sys2Proof.Machine.execBclr s
  | .bpush imm8 => Sys2Proof.Machine.execBpush imm8 s
  | .pack => Sys2Proof.Machine.execPack s
  | .rdb k => Sys2Proof.Machine.execRdb k s
  | .ldx0 imm32 => Sys2Proof.Machine.execLdx0 imm32 s
  | .ldx1 imm32 => Sys2Proof.Machine.execLdx1 imm32 s
  | .rdx0 => Sys2Proof.Machine.execRdx0 s
  | .rdx1 => Sys2Proof.Machine.execRdx1 s
  | .enc => Sys2Proof.Machine.execEnc s
  | .dec => Sys2Proof.Machine.execDec s

end Sys2Proof.Machine
end

