-- ==== Sys2Proof/Machine/Step.lean ====
section
/-! DEFINITION. One step: the core takes the host's next input (10_state.md R10, 00_scope.md R9). -/

namespace Sys2Proof.Machine

/-- One transition. With no input queued the core idles (log 1). `rst` resets it. A command word is decoded and run;
an illegal word takes E_ILLEGAL and changes nothing else (30_encoding.md R68, 60_exceptions.md R185). -/
def step (s : State) : Host.Outcome State Fault Refusal :=
  match s.takeInput with
  | none => .next s
  | some (.rst, s') => .next s'.hardReset
  | some (.command w, s') =>
    match decode w with
    | .instr i => exec i s'
    | .illegal _ => .next (s'.raise .illegal)

/-- `s` with the command word of a table word offered next at the command port (log 2, log 19). -/
def State.withFetchWord (s : State) (nbits w : Nat) : State := s.offer (.command (tableCommand nbits w))

end Sys2Proof.Machine
end

