-- ==== Sys2Proof/Machine/Assembly.lean ====
section
/-! DEFINITION. The textual forms beside the machine: assembler lines (30_encoding.md R70) and the hexadecimal
spellings of commands and responses (R72). Text is a list of characters. -/

namespace Sys2Proof.Machine

/-! ### Assembler lines (R70) -/

/-- The mnemonic in capitals. -/
def mnemonicText (m : Mnemonic) : List Char :=
  match m with
  | .nop => ['N', 'O', 'P']
  | .rdst => ['R', 'D', 'S', 'T']
  | .rdcf => ['R', 'D', 'C', 'F']
  | .clre => ['C', 'L', 'R', 'E']
  | .srst => ['S', 'R', 'S', 'T']
  | .kclr => ['K', 'C', 'L', 'R']
  | .kpush => ['K', 'P', 'U', 'S', 'H']
  | .kexp => ['K', 'E', 'X', 'P']
  | .bclr => ['B', 'C', 'L', 'R']
  | .bpush => ['B', 'P', 'U', 'S', 'H']
  | .pack => ['P', 'A', 'C', 'K']
  | .rdb => ['R', 'D', 'B']
  | .ldx0 => ['L', 'D', 'X', '0']
  | .ldx1 => ['L', 'D', 'X', '1']
  | .rdx0 => ['R', 'D', 'X', '0']
  | .rdx1 => ['R', 'D', 'X', '1']
  | .enc => ['E', 'N', 'C']
  | .dec => ['D', 'E', 'C']

/-- The value of a digit in the given base, 10 or 16; both cases of letters are read (log 18). -/
def digitValue (base : Nat) (c : Char) : Option Nat :=
  let n := c.toNat
  let v :=
    if 48 ≤ n ∧ n ≤ 57 then some (n - 48)
    else if 65 ≤ n ∧ n ≤ 70 then some (n - 55)
    else if 97 ≤ n ∧ n ≤ 102 then some (n - 87)
    else none
  v.filter (· < base)

/-- The value of a string of digits, most significant first, continuing from `acc`. -/
def digitsValue (base : Nat) : Nat → List Char → Option Nat
  | acc, [] => some acc
  | acc, c :: cs => (digitValue base c).bind fun d => digitsValue base (base * acc + d) cs

/-- A number: `0x` and hexadecimal digits, or decimal digits; at least one digit. -/
def numberValue : List Char → Option Nat
  | '0' :: 'x' :: d :: ds => digitsValue 16 0 (d :: ds)
  | d :: ds => digitsValue 10 0 (d :: ds)
  | [] => none

/-- The line before its `;`, without the blanks at its end (log 18). -/
def lineText (cs : List Char) : List Char :=
  ((cs.takeWhile (· ≠ ';')).reverse.dropWhile (· = ' ')).reverse

/-- Read one line: a mnemonic, and, after one space, a number. -/
def parseLine (cs : List Char) : Option AsmLine :=
  let text := lineText cs
  (Mnemonic.all.find? fun m => mnemonicText m == text.takeWhile (· ≠ ' ')).bind fun m =>
    match text.dropWhile (· ≠ ' ') with
    | [] => some { mnemonic := m, operand := none }
    | _ :: digits => (numberValue digits).map fun v => { mnemonic := m, operand := some v }

/-- The command a well-formed line stands for; a line whose operand is missing, unasked for or out of range is an
assembly error and has no encoding (R70). -/
def assembleLine (l : AsmLine) : Option Instr :=
  if l.WellFormed then
    some (l.mnemonic.withOperand (BitVec.ofNat 40 (l.operand.getD 0)))
  else none

/-- From the text of a line to its command. -/
def assembleText (cs : List Char) : Option Instr := (parseLine cs).bind assembleLine

/-! ### Hexadecimal spellings (R72) -/

/-- A 4-bit digit, capitals. -/
def hexDigit (d : BitVec 4) : Char :=
  if d.toNat < 10 then Char.ofNat (48 + d.toNat) else Char.ofNat (55 + d.toNat)

/-- The `n` low hexadecimal digits of a value, most significant first. -/
def hexSpelling {w : Nat} (v : BitVec w) : Nat → List Char
  | 0 => []
  | n + 1 => hexDigit (v.extractLsb' (4 * n) 4) :: hexSpelling v n

/-- A command as 10 digits. -/
def commandText (c : Command) : List Char := hexSpelling c 10

/-- A response as 9 digits, the first being `err`. -/
def responseText (r : Response) : List Char := hexSpelling r.bits 9

end Sys2Proof.Machine
end

