-- ==== Sys2Proof/Machine/Pseudo.lean ====
section
/-! DEFINITION. The eight pseudo-instructions (30_encoding.md R71): each is a sequence of commands. -/

namespace Sys2Proof.Machine

/-- KLOAD b0 ... b(n-1). -/
def kload (key : List Byte) : List Instr := .kclr :: key.map .kpush

/-- SETKEY b0 ... b(n-1): the construction of a Cipher Instance (44_control_and_instance.md R165). -/
def setkey (key : List Byte) : List Instr := kload key ++ [.kexp]

/-- LDBLK w0, w1. -/
def ldblk (w0 w1 : Word) : List Instr := [.ldx0 w0, .ldx1 w1]

/-- RDBLK. -/
def rdblk : List Instr := [.rdx0, .rdx1]

/-- BLOAD b0 ... b(m-1), for at most 8 bytes. -/
def bload (bytes : List Byte) : List Instr := .bclr :: (bytes.map .bpush ++ [.pack])

/-- RDBYTES. -/
def rdbytes : List Instr := [.rdb 0, .rdb 1, .rdb 2, .rdb 3, .rdb 4, .rdb 5, .rdb 6, .rdb 7]

/-- ENCBLK w0, w1: `encryptBlock` (R167). -/
def encblk (w0 w1 : Word) : List Instr := ldblk w0 w1 ++ [.enc] ++ rdblk

/-- DECBLK w0, w1: `decryptBlock` (R167). -/
def decblk (w0 w1 : Word) : List Instr := ldblk w0 w1 ++ [.dec] ++ rdblk

end Sys2Proof.Machine
end

