-- ==== Sys2Proof/Machine/HostProcedure.lean ====
section
/-! DEFINITION. What a host does with the machine: issue commands in order and collect their responses, and the ECB
procedures (44_control_and_instance.md R171, R172), which are not hardware (00_scope.md section 3; log 17). -/

namespace Sys2Proof.Machine

/-- Go on with the state of a next outcome. -/
def thenRun {α β : Type} (o : Host.Outcome α Fault Refusal) (f : α → Host.Outcome β Fault Refusal) :
    Host.Outcome β Fault Refusal :=
  match o with
  | .next a => f a
  | .fault r => .fault r
  | .refused r => .refused r

/-- Issue commands one after another (20_memory.md R50); the final state and the responses in order. -/
def issueAll : List Instr → State → Host.Outcome (State × List Response) Fault Refusal
  | [], s => .next (s, [])
  | i :: is, s =>
    thenRun (exec i s) fun s₁ =>
      thenRun (issueAll is s₁) fun (s₂, rs) => .next (s₂, s₁.rsp.toList ++ rs)

/-- The data byte of a response to RDB. -/
def Response.dataByte (r : Response) : Byte := r.data.setWidth 8

/-- One turn of the loop of R171: load up to 8 bytes, run `op` (ENC or DEC), read the 8 bytes back. -/
def ecbBlock (op : Instr) (chunk : List Byte) (s : State) : Host.Outcome (State × List Byte) Fault Refusal :=
  thenRun (issueAll (bload chunk ++ [op]) s) fun (s₁, _) =>
    thenRun (issueAll rdbytes s₁) fun (s₂, rs) => .next (s₂, rs.map Response.dataByte)

/-- `n` turns over the bytes still to do. -/
def ecbBlocks (op : Instr) : Nat → List Byte → State → Host.Outcome (State × List Byte) Fault Refusal
  | 0, _, s => .next (s, [])
  | n + 1, bytes, s =>
    thenRun (ecbBlock op (bytes.take 8) s) fun (s₁, out) =>
      thenRun (ecbBlocks op n (bytes.drop 8) s₁) fun (s₂, rest) => .next (s₂, out ++ rest)

/-- `encryptEcb` (R171): `ceil(n/8)` turns with ENC. -/
def encryptEcb (plaintext : List Byte) (s : State) : Host.Outcome (State × List Byte) Fault Refusal :=
  ecbBlocks .enc ((plaintext.length + 7) / 8) plaintext s

/-- `decryptEcb` (R172): the same with DEC. -/
def decryptEcb (ciphertext : List Byte) (s : State) : Host.Outcome (State × List Byte) Fault Refusal :=
  ecbBlocks .dec ((ciphertext.length + 7) / 8) ciphertext s

end Sys2Proof.Machine
end

