-- ==== Sys2Proof/Safety.lean ====
section
/-! DEFINITION. The predicates the claims are stated with: the invariants of 10_state.md R22, and the relation between
states that differ only in contents no command can observe (R31). -/

namespace Sys2Proof.Machine

/-- R22 (a), (c), (d), and that `T` has S entries (R15). R22 (b) holds by the shape of `State.status`; R22 (e) is said
by `SameVisible`, since it speaks of what was written before. -/
structure State.Inv (s : State) : Prop where
  /-- `KLEN <= 256` -/
  klen : s.klen.toNat ≤ 256
  /-- `BLEN <= 8` -/
  blen : s.blen.toNat ≤ 8
  /-- `LC <= 64` -/
  lc : s.lc.toNat ≤ 64
  /-- `T` has S entries -/
  tableLength : s.t.length = s.cfg.tableWords.toNat
  /-- `EK = 1` only with `KV = 1` -/
  advisory : s.ek = true → s.kv = true
  /-- with `KV = 1` the configuration is well formed and `T` is the expansion of some key, which is empty exactly when
  `EK = 1` -/
  constructed : s.kv = true → s.cfg.WellFormed ∧
    ∃ key : List Byte, key.length ≤ 255 ∧ s.t = expand key s.cfg.tableWords.toNat ∧ (s.ek = true ↔ key = [])

/-- The two states agree on everything a later response can depend on (R31): all of the state but the entries of `KB`
and `BB` that hold no buffered byte, `L`, `LC`, the words of `T` while `KV = 0`, the working registers, and the
model's count of free values. -/
structure SameVisible (s₁ s₂ : State) : Prop where
  cfg : s₁.cfg = s₂.cfg
  x0 : s₁.x0 = s₂.x0
  x1 : s₁.x1 = s₂.x1
  klen : s₁.klen = s₂.klen
  keyMaterial : s₁.keyMaterial = s₂.keyMaterial
  blen : s₁.blen = s₂.blen
  blockBytes : s₁.blockBytes = s₂.blockBytes
  kv : s₁.kv = s₂.kv
  table : s₁.kv = true → s₁.t = s₂.t
  ek : s₁.ek = s₂.ek
  ekl : s₁.ekl = s₂.ekl
  etb : s₁.etb = s₂.etb
  enk : s₁.enk = s₂.enk
  ebo : s₁.ebo = s₂.ebo
  eil : s₁.eil = s₂.eil
  inbox : s₁.inbox = s₂.inbox
  rsp : s₁.rsp = s₂.rsp

/-- The state with the five sticky bits replaced (10_state.md R20). -/
def State.withSticky (s : State) (ekl etb enk ebo eil : Bool) : State :=
  { s with ekl := ekl, etb := etb, enk := enk, ebo := ebo, eil := eil }

end Sys2Proof.Machine
end

