-- ==== Sys2Proof/Certificates/Slice0/Obligations.lean ====
section
/-! DEFINITION. The statements for the provers. Each docstring names the rules of spec/ it formalises. Where a command
runs through the working registers, or draws a free value, the next state `t` is described with `t.ma`, … themselves, so
no statement says anything about a free value. -/

open Sys2Proof Sys2Proof.Machine

/-! ### Encoding and the command port -/

/-- R60 to R67: the word of every command, with every operand, decodes to that command. -/
def Obligations.DecodeInvertsEncode : Prop :=
  ∀ i : Instr, decode (encode i) = .instr i

/-- R66, R67: a legal word is the word of the command it decodes to, so no bit of a legal word is ignored. -/
def Obligations.EncodeInvertsDecode : Prop :=
  ∀ (c : Command) (i : Instr), decode c = .instr i → encode i = c

/-- R66: the opcode map. A word is the named command exactly when its masked bits are the row's match. -/
def Obligations.NamedExactlyWhenMaskedBitsMatch : Prop :=
  ∀ row ∈ ([(.nop, 0x0000000000, 0xFFFFFFFFFF), (.rdst, 0x0100000000, 0xFFFFFFFFFF),
      (.rdcf, 0x0200000000, 0xFFFFFFFFFF), (.clre, 0x0300000000, 0xFFFFFFFFFF), (.srst, 0x0400000000, 0xFFFFFFFFFF),
      (.kclr, 0x1000000000, 0xFFFFFFFFFF), (.kpush, 0x1100000000, 0xFFFFFFFF00), (.kexp, 0x1200000000, 0xFFFFFFFFFF),
      (.bclr, 0x2000000000, 0xFFFFFFFFFF), (.bpush, 0x2100000000, 0xFFFFFFFF00), (.pack, 0x2200000000, 0xFFFFFFFFFF),
      (.rdb, 0x2300000000, 0xFFFFFFFFF8), (.ldx0, 0x2400000000, 0xFF00000000), (.ldx1, 0x2500000000, 0xFF00000000),
      (.rdx0, 0x2600000000, 0xFFFFFFFFFF), (.rdx1, 0x2700000000, 0xFFFFFFFFFF), (.enc, 0x3000000000, 0xFFFFFFFFFF),
      (.dec, 0x3100000000, 0xFFFFFFFFFF)] : List (Mnemonic × Command × Command)),
    ∀ c : Command, (∃ i, decode c = .instr i ∧ i.mnemonic = row.1) ↔ c &&& row.2.2 = row.2.1

/-- R68, R185: which words are illegal, what running one does (response `(5, 0)`, `EIL` set, nothing else), and that
every other word is a command. -/
def Obligations.IllegalWordsRaiseOnlyTheirError : Prop :=
  ∀ (s : State) (rest : List PortInput) (op : BitVec 8) (arg : Word),
    s.inbox = .command (op ++ arg) :: rest →
    if op ∉ ([0x00, 0x01, 0x02, 0x03, 0x04, 0x10, 0x11, 0x12, 0x20, 0x21, 0x22, 0x23, 0x24, 0x25, 0x26, 0x27, 0x30,
          0x31] : List (BitVec 8)) ∨
        (op ∈ ([0x00, 0x01, 0x02, 0x03, 0x04, 0x10, 0x12, 0x20, 0x22, 0x26, 0x27, 0x30, 0x31] : List (BitVec 8)) ∧
          arg ≠ 0) ∨
        (op ∈ ([0x11, 0x21] : List (BitVec 8)) ∧ arg.extractLsb' 8 24 ≠ (0 : BitVec 24)) ∨
        (op = 0x23 ∧ arg.extractLsb' 3 29 ≠ (0 : BitVec 29)) then
      step s = .next { s with inbox := rest, eil := true, rsp := some (.error .illegal) } ∧
        (Response.error .illegal).bits = 0x500000000
    else ∃ i, decode (op ++ arg) = .instr i

/-- R66, R72: words written out in the spec decode to the commands it says they are. -/
def Obligations.SpelledWordsDecode : Prop :=
  decode 0x110000002B = .instr (.kpush 0x2B) ∧ decode 0x2433221100 = .instr (.ldx0 0x33221100) ∧
    decode 0x2577665544 = .instr (.ldx1 0x77665544) ∧ decode 0x2300000003 = .instr (.rdb 3) ∧
    decode 0x1200000000 = .instr .kexp ∧ decode 0x0200000000 = .instr .rdcf ∧ decode 0x21000000EA = .instr (.bpush 0xEA) ∧
    decode 0x3100000000 = .instr .dec

/-- A step runs the decoded command: exec on the state without the input taken. -/
def Obligations.StepRunsTheDecodedCommand : Prop :=
  ∀ (s : State) (rest : List PortInput) (w : Command) (i : Instr),
    s.inbox = .command w :: rest → decode w = .instr i → step s = exec i { s with inbox := rest }

/-- R9, R224: every accepted command word, legal or not, is answered in one step by one response, and takes exactly one
input from the port. -/
def Obligations.EveryAcceptedCommandIsAnswered : Prop :=
  ∀ (s : State) (rest : List PortInput) (w : Command), s.inbox = .command w :: rest →
    ∃ t r, step s = .next t ∧ t.rsp = some r ∧ t.inbox = rest

/-- The model's choice (log 1): with no input queued a step changes nothing. -/
def Obligations.CoreIdlesWithoutInput : Prop :=
  ∀ s : State, s.inbox = [] → step s = .next s

/-- R61: the response word. -/
def Obligations.ResponseWordLayout : Prop :=
  ∀ r : Response, r.bits.extractLsb' 32 4 = r.err ∧ r.bits.extractLsb' 0 32 = r.data ∧ r.err.toNat ≤ 5 ∧
    (r.err ≠ 0 → r.data = 0) ∧ (∀ d, Response.err (.ok d) = 0 ∧ Response.data (.ok d) = d)

/-- R24, R25: after reset (power-up at any configuration, or `rst` from any state) and after SRST, every scalar control
item and both block registers are 0, and `STATUS` is 0. -/
def Obligations.ResetsClearScalarsAndBlock : Prop :=
  ∀ (s t : State) (c : Cfg),
    t = State.resetWith c ∨ (∃ rest, s.inbox = .rst :: rest ∧ step s = .next t) ∨ exec .srst s = .next t →
    t.klen = 0 ∧ t.blen = 0 ∧ t.lc = 0 ∧ t.kv = false ∧ t.ek = false ∧ t.ekl = false ∧ t.etb = false ∧ t.enk = false ∧
      t.ebo = false ∧ t.eil = false ∧ t.status = 0 ∧ t.x0 = 0 ∧ t.x1 = 0

/-- R211, R212: `rst` at the port always takes the machine to a reset state of the same configuration, from any state.
That no response is present afterwards (log 10) and that later inputs stay queued (log 1) are the model's choices. -/
def Obligations.ResetInputCompletes : Prop :=
  ∀ (s : State) (rest : List PortInput), s.inbox = .rst :: rest →
    ∃ t, step s = .next t ∧ SameVisible t { State.resetWith s.cfg with inbox := rest }

/-! ### Control commands -/

/-- R160. -/
def Obligations.NopOnlyAnswers : Prop :=
  encode .nop = 0x0000000000 ∧ ∀ s : State, exec .nop s = .next { s with rsp := some (.ok 0) }

/-- R161, R17: RDST answers `STATUS`, whose value is the sum R17 gives, and changes nothing. -/
def Obligations.RdstReturnsStatus : Prop :=
  encode .rdst = 0x0100000000 ∧ ∀ s : State, ∃ d : Word, exec .rdst s = .next { s with rsp := some (.ok d) } ∧
    d.toNat = s.kv.toNat + 2 * s.ek.toNat + 256 * s.ekl.toNat + 512 * s.etb.toNat + 1024 * s.enk.toNat
      + 2048 * s.ebo.toNat + 4096 * s.eil.toNat + 65536 * s.klen.toNat + 33554432 * s.blen.toNat ∧
    ∀ e : Error, d.getLsbD (7 + e.code.toNat) = s.sticky e

/-- R162, R18: RDCF answers `CONFIG`, and changes nothing; no step changes the configuration. -/
def Obligations.RdcfReturnsTheConstantConfiguration : Prop :=
  encode .rdcf = 0x0200000000 ∧ configWord Cfg.default = 0x001A0C20 ∧
  (∀ s : State, ∃ d : Word, exec .rdcf s = .next { s with rsp := some (.ok d) } ∧
    d.extractLsb' 0 8 = (32 : BitVec 8) ∧ d.extractLsb' 8 8 = s.cfg.rounds ∧ d.extractLsb' 16 10 = s.cfg.tableWords ∧
    d.extractLsb' 26 6 = (0 : BitVec 6)) ∧
  ∀ s t : State, step s = .next t → t.cfg = s.cfg

/-- R163. -/
def Obligations.ClreClearsOnlyTheStickyBits : Prop :=
  encode .clre = 0x0300000000 ∧ ∀ s : State, exec .clre s =
    .next { s with ekl := false, etb := false, enk := false, ebo := false, eil := false, rsp := some (.ok 0) }

/-- R164. -/
def Obligations.SrstClearsScalarsAndBlock : Prop :=
  encode .srst = 0x0400000000 ∧ ∀ s : State, exec .srst s =
    .next { s with
      klen := 0, blen := 0, lc := 0, kv := false, ek := false, ekl := false, etb := false, enk := false, ebo := false,
      eil := false, x0 := 0, x1 := 0, rsp := some (.ok 0) }

/-! ### Key commands -/

/-- R120. -/
def Obligations.KclrEmptiesTheKey : Prop :=
  encode .kclr = 0x1000000000 ∧ ∀ s : State, exec .kclr s = .next { s with klen := 0, rsp := some (.ok 0) }

/-- R121: the byte is stored while at most 254 are held; the 256th is dropped and counted; later ones change nothing;
no error in any case. -/
def Obligations.KpushStoresCountsOrDrops : Prop :=
  (∀ b : Byte, encode (.kpush b) = 0x11#8 ++ 0#24 ++ b) ∧
  ∀ (s : State) (b : Byte),
    (∀ h : s.klen.toNat ≤ 254, exec (.kpush b) s =
      .next { s with kb := s.kb.set s.klen.toNat b (by omega), klen := s.klen + 1, rsp := some (.ok 0) }) ∧
    (s.klen.toNat = 255 → exec (.kpush b) s = .next { s with klen := 256, rsp := some (.ok 0) }) ∧
    (s.klen.toNat = 256 → exec (.kpush b) s = .next { s with rsp := some (.ok 0) })

/-- R12: KPUSH appends its byte to the key material while there is room, and never changes the bytes held. -/
def Obligations.KpushAppendsToKeyMaterial : Prop :=
  ∀ (s t : State) (b : Byte), exec (.kpush b) s = .next t →
    t.keyMaterial = if s.klen.toNat ≤ 254 then s.keyMaterial ++ [b] else s.keyMaterial

/-- R127 (R122, R181, R182): KEXP checks the key length, then the table size; on a failure the instance ends and
nothing else but the sticky bit and the response changes; otherwise `T` is the expansion of the key bytes, `L` holds the
mixed key words in its first `ceil(KLEN/4)` entries, and `KV`, `EK` and the response are set. -/
def Obligations.KexpValidatesThenExpands : Prop :=
  encode .kexp = 0x1200000000 ∧
  ∀ s : State,
    if 255 < s.klen.toNat then
      exec .kexp s = .next { s with kv := false, ek := false, ekl := true, rsp := some (.error .keyLen) }
    else if s.cfg.tableWords.toNat < 2 ∨ s.cfg.tableWords.toNat ≠ 2 * (s.cfg.rounds.toNat + 1) then
      exec .kexp s = .next { s with kv := false, ek := false, etb := true, rsp := some (.error .table) }
    else
      ∃ t, exec .kexp s = .next t ∧
        t.t = expand (s.kb.toList.take s.klen.toNat) s.cfg.tableWords.toNat ∧
        t.lc.toNat = (s.klen.toNat + 3) / 4 ∧
        (∀ j : Fin 64, t.l[j] = if j.val < t.lc.toNat
          then (keySchedule (s.kb.toList.take s.klen.toNat) s.cfg.tableWords.toNat).l.getD j.val 0 else s.l[j]) ∧
        t.rsp = some (.ok (if s.klen = 0 then 1 else 0)) ∧
        t = { s with
          t := t.t, l := t.l, lc := t.lc, kv := true, ek := decide (s.klen = 0), rsp := t.rsp, ma := t.ma, mb := t.mb,
          mi := t.mi, mj := t.mj, mn := t.mn, draws := t.draws }

/-- R124: the seed in closed form, and its recurrence. -/
def Obligations.SeedIsPPlusMultiplesOfQ : Prop :=
  ∀ size : Nat, (seed size).length = size ∧
    ∀ i < size, (seed size)[i]? = some (0xB7E15163 + BitVec.ofNat 32 i * 0x9E3779B9)

/-- R123 to R126: `Expand` is the two-pointer interleaved update, run exactly `3 * max(S, c)` times. `A`, `B` are the
running words, `T k`, `L k` the table and the key words after `k` iterations; iteration `k` works on entries `k mod S`
and `k mod c` (R129). -/
def Obligations.ExpandIsTheInterleavedMix : Prop :=
  ∀ (key : List Byte) (size : Nat), 0 < size →
    ∃ (A B : Nat → Word) (T L : Nat → Nat → Word),
      A 0 = 0 ∧ B 0 = 0 ∧ T 0 0 = 0xB7E15163 ∧ (∀ i, T 0 (i + 1) = T 0 i + 0x9E3779B9) ∧
      (∀ j (h : j < (b2w key).length), L 0 j = (b2w key)[j]) ∧
      (∀ k < 3 * max size (b2w key).length,
        A (k + 1) = rotl (T k (k % size) + A k + B k) 3 ∧
        (∀ i, T (k + 1) i = if i = k % size then A (k + 1) else T k i) ∧
        (0 < (b2w key).length →
          B (k + 1) = rotl (L k (k % (b2w key).length) + A (k + 1) + B k) ((A (k + 1) + B k).toNat % 32) ∧
          ∀ j, L (k + 1) j = if j = k % (b2w key).length then B (k + 1) else L k j) ∧
        ((b2w key).length = 0 → B (k + 1) = B k)) ∧
      expand key size = (List.range size).map (T (3 * max size (b2w key).length)) ∧
      (keySchedule key size).l = (List.range (b2w key).length).map (L (3 * max size (b2w key).length))

/-- Part of R129: where the loop's indices stand after `k` iterations, and what `a` and `b` are at its end. -/
def Obligations.MixIndicesAndFinalWords : Prop :=
  ∀ (key : List Byte) (size : Nat), 0 < size →
    (∀ k, (mixRun k (mixStart key size)).i = k % size ∧
      (0 < (b2w key).length → (mixRun k (mixStart key size)).j = k % (b2w key).length)) ∧
    (let n := 3 * max size (b2w key).length
     let m := keySchedule key size
     m.t[(n - 1) % size]? = some m.a ∧ (0 < (b2w key).length → m.l[(n - 1) % (b2w key).length]? = some m.b))

/-- R190 (and part of R128): the empty key is no error: response `(0, 1)`, `EK` set, no sticky bit changed, `L`
untouched, `b` 0 throughout. -/
def Obligations.EmptyKeySucceedsWithAdvisory : Prop :=
  (∀ size k : Nat, (mixRun k (mixStart [] size)).b = 0) ∧
  ∀ s : State, s.klen = 0 → s.cfg.WellFormed →
    ∃ t, exec .kexp s = .next t ∧ t.rsp = some (.ok 1) ∧ t.kv = true ∧ t.ek = true ∧ t.l = s.l ∧ t.lc = 0 ∧
      ∀ e : Error, t.sticky e = s.sticky e

/-- R130: the table a KEXP leaves depends on the key material, `KLEN` and the configuration alone. -/
def Obligations.TableDependsOnKeyAndConfigurationOnly : Prop :=
  ∀ s₁ s₂ t₁ t₂ : State, s₁.cfg = s₂.cfg → s₁.klen = s₂.klen → s₁.keyMaterial = s₂.keyMaterial →
    exec .kexp s₁ = .next t₁ → exec .kexp s₂ = .next t₂ →
    t₁.kv = t₂.kv ∧ t₁.ek = t₂.ek ∧ t₁.rsp = t₂.rsp ∧ (t₁.kv = true → t₁.t = t₂.t)

/-- R131, R16: among the commands only a KEXP that passes validation writes `T`; `KV` becomes 0 only by SRST or a failing
KEXP and 1 only by a KEXP that passes; SRST and a failing KEXP leave `T` and clear `KV`. No step, with or without a
command, changes `T` but one that takes the word of KEXP; one that takes `rst` leaves `T` and clears `KV`. -/
def Obligations.OnlyKexpMakesOrChangesAnInstance : Prop :=
  (∀ (i : Instr) (s t : State), exec i s = .next t →
    (t.t ≠ s.t → i = .kexp ∧ s.klen.toNat ≤ 255 ∧ s.cfg.WellFormed) ∧
    (s.kv = true → t.kv = false → i = .srst ∨ i = .kexp ∧ (255 < s.klen.toNat ∨ ¬ s.cfg.WellFormed)) ∧
    (s.kv = false → t.kv = true → i = .kexp ∧ s.klen.toNat ≤ 255 ∧ s.cfg.WellFormed) ∧
    (i = .srst ∨ i = .kexp ∧ (255 < s.klen.toNat ∨ ¬ s.cfg.WellFormed) → t.t = s.t ∧ t.kv = false)) ∧
  (∀ s t : State, step s = .next t → t.t ≠ s.t →
    ∃ rest, s.inbox = .command 0x1200000000 :: rest ∧ s.klen.toNat ≤ 255 ∧ s.cfg.WellFormed) ∧
  ∀ (s : State) (rest : List PortInput), s.inbox = .rst :: rest → ∃ t, step s = .next t ∧ t.t = s.t ∧ t.kv = false

/-- R165: the three outcomes of constructing an instance with SETKEY, from any state. -/
def Obligations.SetkeyConstructsTheInstance : Prop :=
  ∀ (s : State) (key : List Byte),
    ∃ t r, issueAll (setkey key) s = .next (t, List.replicate (key.length + 1) (.ok 0) ++ [r]) ∧
      if 255 < key.length then r = .error .keyLen ∧ t.kv = false
      else if ¬ s.cfg.WellFormed then r = .error .table ∧ t.kv = false
      else r = .ok (if key = [] then 1 else 0) ∧ t.kv = true ∧ t.ek = decide (key = []) ∧
        t.t = expand key s.cfg.tableWords.toNat

/-! ### The converter and the block data commands -/

/-- R101, R102: `B2W` has `ceil(n/4)` words, and word `q` is the value of its chunk, least significant byte first,
shifted to the high end when the chunk is partial. -/
def Obligations.BytesToWordsByFormula : Prop :=
  ∀ bs : List Byte, (b2w bs).length = (bs.length + 3) / 4 ∧
    ∀ q (h : q < (b2w bs).length),
      ((b2w bs)[q]).toNat =
        Nat.ofDigits 256 (((bs.drop (4 * q)).take 4).map BitVec.toNat) * 256 ^ (4 - ((bs.drop (4 * q)).take 4).length)

/-- R103: byte `4q + t` of `W2B` is bits `8t+7` to `8t` of word `q`. -/
def Obligations.WordsToBytesByFormula : Prop :=
  ∀ ws : List Word, (w2b ws).length = 4 * ws.length ∧
    ∀ q (h : q < ws.length), ∀ t < 4, (w2b ws)[4 * q + t]? = some ((ws[q]).extractLsb' (8 * t) 8)

/-- R104: words survive the round trip; bytes do when their number is a multiple of 4, and otherwise the zero bytes come
before the bytes of the partial chunk; so such a sequence and its padded form convert to the same words. -/
def Obligations.ConversionRoundTrips : Prop :=
  (∀ ws : List Word, b2w (w2b ws) = ws) ∧
  ∀ whole part : List Byte, whole.length % 4 = 0 → part.length < 4 →
    w2b (b2w (whole ++ part)) = (if part = [] then whole else whole ++ List.replicate (4 - part.length) 0 ++ part) ∧
    (part ≠ [] → b2w (whole ++ part) = b2w (whole ++ List.replicate (4 - part.length) 0 ++ part))

/-- R106. -/
def Obligations.BclrEmptiesTheBuffer : Prop :=
  encode .bclr = 0x2000000000 ∧ ∀ s : State, exec .bclr s = .next { s with blen := 0, rsp := some (.ok 0) }

/-- R107, R184: up to 8 bytes are stored; a ninth is dropped with E_BOVF. -/
def Obligations.BpushStoresOrOverflows : Prop :=
  (∀ b : Byte, encode (.bpush b) = 0x21#8 ++ 0#24 ++ b) ∧
  ∀ (s : State) (b : Byte),
    (∀ h : s.blen.toNat < 8, exec (.bpush b) s =
      .next { s with bb := s.bb.set s.blen.toNat b h, blen := s.blen + 1, rsp := some (.ok 0) }) ∧
    (s.blen.toNat = 8 → exec (.bpush b) s = .next { s with ebo := true, rsp := some (.error .bovf) })

/-- R108: PACK converts the buffered bytes, fills missing words with 0, and empties the buffer. -/
def Obligations.PackConvertsAndEmpties : Prop :=
  encode .pack = 0x2200000000 ∧
  ∀ s : State, ∃ x0 x1 : Word,
    exec .pack s = .next { s with x0 := x0, x1 := x1, blen := 0, rsp := some (.ok 0) } ∧
    x0 = (b2w (s.bb.toList.take s.blen.toNat)).getD 0 0 ∧ x1 = (b2w (s.bb.toList.take s.blen.toNat)).getD 1 0

/-- R109: RDB k answers byte `k mod 4` of `X[k div 4]`, zero-extended, and changes nothing. -/
def Obligations.RdbReturnsByteOfBlock : Prop :=
  (∀ k : BitVec 3, encode (.rdb k) = 0x23#8 ++ 0#29 ++ k) ∧
  ∀ (s : State) (k : BitVec 3), exec (.rdb k) s = .next { s with
    rsp := some (.ok (((if k.toNat / 4 = 0 then s.x0 else s.x1).extractLsb' (8 * (k.toNat % 4)) 8).setWidth 32)) }

/-- R110, R111. -/
def Obligations.LoadsWriteOneBlockRegister : Prop :=
  (∀ v : Word, encode (.ldx0 v) = 0x24#8 ++ v ∧ encode (.ldx1 v) = 0x25#8 ++ v) ∧
  ∀ (s : State) (v : Word), exec (.ldx0 v) s = .next { s with x0 := v, rsp := some (.ok 0) } ∧
    exec (.ldx1 v) s = .next { s with x1 := v, rsp := some (.ok 0) }

/-- R112, R113. -/
def Obligations.ReadsReturnTheBlockRegisters : Prop :=
  encode .rdx0 = 0x2600000000 ∧ encode .rdx1 = 0x2700000000 ∧
  ∀ s : State, exec .rdx0 s = .next { s with rsp := some (.ok s.x0) } ∧
    exec .rdx1 s = .next { s with rsp := some (.ok s.x1) }

/-- R114: words loaded come out as the bytes of `W2B`; up to 8 bytes loaded with BLOAD come out as the bytes and words
of their conversion, and 8 bytes come out as they went in. -/
def Obligations.WordAndByteViewsAgree : Prop :=
  (∀ (s : State) (w0 w1 : Word), ∃ t, issueAll (ldblk w0 w1 ++ rdbytes) s =
    .next (t, [.ok 0, .ok 0] ++ (w2b [w0, w1]).map (fun b => .ok (b.setWidth 32)))) ∧
  ∀ (s : State) (bs : List Byte), bs.length ≤ 8 → ∃ t,
    issueAll (bload bs ++ rdbytes ++ rdblk) s = .next (t, List.replicate (bs.length + 2) (.ok 0) ++
      (w2b [(b2w bs).getD 0 0, (b2w bs).getD 1 0]).map (fun b => .ok (b.setWidth 32)) ++
      [.ok ((b2w bs).getD 0 0), .ok ((b2w bs).getD 1 0)]) ∧
    (bs.length = 8 → w2b [(b2w bs).getD 0 0, (b2w bs).getD 1 0] = bs)

/-! ### Word operations and the round function -/

/-- R80, R81, R82, R88 (and the last sentences of R84): the sums and differences modulo 2^32, exclusive-or by bits,
rotation amounts, the byte swap. -/
def Obligations.WordOperationsByFormula : Prop :=
  ∀ x y : Word, (add32 x y).toNat = (x.toNat + y.toNat) % 2 ^ 32 ∧
    (sub32 x y).toNat = (if y.toNat ≤ x.toNat then x.toNat - y.toNat else x.toNat + 2 ^ 32 - y.toNat) ∧
    (∀ i, (xor32 x y).getLsbD i = (x.getLsbD i != y.getLsbD i)) ∧
    rotAmount (add32 x y) = (x.toNat + y.toNat) % 32 ∧
    (∀ i < 4, (bswap x).extractLsb' (8 * i) 8 = x.extractLsb' (8 * (3 - i)) 8) ∧ bswap (bswap x) = x

/-- R85, R86 (and the first law of R87): where a rotation moves each bit, and that the two rotations undo each other. -/
def Obligations.RotationsMoveBitsAround : Prop :=
  ∀ (x : Word) (n : Nat), n ≤ 31 →
    (∀ i < 32, (rotl x n).getLsbD i = x.getLsbD ((i + 32 - n) % 32) ∧ (rotr x n).getLsbD i = x.getLsbD ((i + n) % 32)) ∧
    rotr (rotl x n) n = x ∧ rotl (rotr x n) n = x

/-- R144: the half-rounds undo each other. -/
def Obligations.HalfRoundsAreInverse : Prop :=
  ∀ u v k : Word, hri (hrf u v k) v k = u ∧ hrf (hri u v k) v k = u

/-- R142, R140, R183: ENC without an instance is E_NOKEY; with one it runs the rounds 1 to ROUNDS on `X`, `a` before `b`,
each with the other's newest value. `T i` is `T[i]` for every entry the table has. -/
def Obligations.EncRunsTheRounds : Prop :=
  encode .enc = 0x3000000000 ∧
  ∀ s : State,
    (s.kv = false → exec .enc s = .next { s with enk := true, rsp := some (.error .noKey) }) ∧
    (s.kv = true → ∃ (T A B : Nat → Word) (t : State),
      (∀ i (h : i < s.t.length), T i = s.t[i]) ∧
      A 0 = s.x0 + T 0 ∧ B 0 = s.x1 + T 1 ∧
      (∀ r, 1 ≤ r → r ≤ s.cfg.rounds.toNat →
        A r = rotl (A (r - 1) ^^^ B (r - 1)) ((B (r - 1)).toNat % 32) + T (2 * r) ∧
        B r = rotl (B (r - 1) ^^^ A r) ((A r).toNat % 32) + T (2 * r + 1)) ∧
      exec .enc s = .next t ∧
      t = { s with
        x0 := A s.cfg.rounds.toNat, x1 := B s.cfg.rounds.toNat, rsp := some (.ok 0), ma := t.ma, mb := t.mb,
        rc := t.rc, draws := t.draws })

/-- R145, R143, R183: DEC without an instance is E_NOKEY; with one it runs the rounds ROUNDS to 1 backwards on `X`, `b`
before `a`. `A r`, `B r` are the words before round `r` is undone. -/
def Obligations.DecRunsTheRoundsBackwards : Prop :=
  encode .dec = 0x3100000000 ∧
  ∀ s : State,
    (s.kv = false → exec .dec s = .next { s with enk := true, rsp := some (.error .noKey) }) ∧
    (s.kv = true → ∃ (T A B : Nat → Word) (t : State),
      (∀ i (h : i < s.t.length), T i = s.t[i]) ∧
      A s.cfg.rounds.toNat = s.x0 ∧ B s.cfg.rounds.toNat = s.x1 ∧
      (∀ r, 1 ≤ r → r ≤ s.cfg.rounds.toNat →
        B (r - 1) = rotr (B r - T (2 * r + 1)) ((A r).toNat % 32) ^^^ A r ∧
        A (r - 1) = rotr (A r - T (2 * r)) ((B (r - 1)).toNat % 32) ^^^ B (r - 1)) ∧
      exec .dec s = .next t ∧
      t = { s with
        x0 := A 0 - T 0, x1 := B 0 - T 1, rsp := some (.ok 0), ma := t.ma, mb := t.mb, rc := t.rc, draws := t.draws })

/-- R146: for every table, every round count and every block `Decrypt` and `Encrypt` undo each other; with an instance,
the command pairs ENC, DEC and DEC, ENC leave `X` as it was. R146 says so of tables of `2 * (ROUNDS + 1)` words; for a
shorter table the statement rests on the model's choice of log 12 (an entry past the end is a free value). -/
def Obligations.DecryptAndEncryptAreInverse : Prop :=
  (∀ (t : List Word) (rounds : Nat) (x : Block),
    decrypt t rounds (encrypt t rounds x) = x ∧ encrypt t rounds (decrypt t rounds x) = x) ∧
  ∀ s : State, s.kv = true →
    (∃ t, issueAll [.enc, .dec] s = .next (t, [.ok 0, .ok 0]) ∧ t.x0 = s.x0 ∧ t.x1 = s.x1) ∧
    (∃ t, issueAll [.dec, .enc] s = .next (t, [.ok 0, .ok 0]) ∧ t.x0 = s.x0 ∧ t.x1 = s.x1)

/-- R148: with ROUNDS = 0 only the two additions, or the two subtractions, remain. -/
def Obligations.ZeroRoundsOnlyAddTheFirstKeys : Prop :=
  ∀ (t0 t1 p0 p1 : Word), encrypt [t0, t1] 0 ⟨p0, p1⟩ = ⟨p0 + t0, p1 + t1⟩ ∧
    decrypt [t0, t1] 0 ⟨p0, p1⟩ = ⟨p0 - t0, p1 - t1⟩

/-- R167: ENCBLK and DECBLK return the transformed words. -/
def Obligations.SingleBlockOperations : Prop :=
  ∀ (s : State) (w0 w1 : Word), s.kv = true →
    (∃ t, issueAll (encblk w0 w1) s = .next (t, [.ok 0, .ok 0, .ok 0,
      .ok (encrypt s.t s.cfg.rounds.toNat ⟨w0, w1⟩).a, .ok (encrypt s.t s.cfg.rounds.toNat ⟨w0, w1⟩).b])) ∧
    (∃ t, issueAll (decblk w0 w1) s = .next (t, [.ok 0, .ok 0, .ok 0,
      .ok (decrypt s.t s.cfg.rounds.toNat ⟨w0, w1⟩).a, .ok (decrypt s.t s.cfg.rounds.toNat ⟨w0, w1⟩).b]))

/-! ### Errors, and properties of the whole machine -/

/-- R181 to R184, R187: which command answers which error, and when; no command itself is answered E_ILLEGAL. A command
that answers an error gives its code and data 0, sets the sticky bit of the cause, and changes nothing else except that
KEXP clears `KV` and `EK`. -/
def Obligations.ErrorsAreRaisedAndTakenAsStated : Prop :=
  ∀ (i : Instr) (s t : State), exec i s = .next t →
    (t.rsp = some (.error .keyLen) ↔ i = .kexp ∧ 255 < s.klen.toNat) ∧
    (t.rsp = some (.error .table) ↔ i = .kexp ∧ s.klen.toNat ≤ 255 ∧
      (s.cfg.tableWords.toNat < 2 ∨ s.cfg.tableWords.toNat ≠ 2 * (s.cfg.rounds.toNat + 1))) ∧
    (t.rsp = some (.error .noKey) ↔ (i = .enc ∨ i = .dec) ∧ s.kv = false) ∧
    (t.rsp = some (.error .bovf) ↔ (∃ b, i = .bpush b) ∧ s.blen = 8) ∧
    t.rsp ≠ some (.error .illegal) ∧
    ∀ e : Error, t.rsp = some (.error e) →
      (Response.error e).bits = (match e with
        | .keyLen => 0x100000000 | .table => 0x200000000 | .noKey => 0x300000000 | .bovf => 0x400000000
        | .illegal => 0x500000000) ∧
      t = { s.withSticky (s.ekl || decide (e = .keyLen)) (s.etb || decide (e = .table)) (s.enk || decide (e = .noKey))
              (s.ebo || decide (e = .bovf)) (s.eil || decide (e = .illegal)) with
        kv := s.kv && decide (i ≠ .kexp), ek := s.ek && decide (i ≠ .kexp), rsp := some (.error e) }

/-- R20, R189: a sticky bit, once set, is cleared by no command but CLRE and SRST. -/
def Obligations.StickyBitsAreClearedOnlyByClreAndSrst : Prop :=
  ∀ (i : Instr) (s t : State) (e : Error), exec i s = .next t → s.sticky e = true → t.sticky e = false →
    i = .clre ∨ i = .srst

/-- R20: a set error bit changes no other behaviour. Every command but RDST, which reports the bits, answers the same
and leaves the same state, the five bits apart, whatever they were before. -/
def Obligations.StickyBitsChangeNoBehaviour : Prop :=
  ∀ (i : Instr) (s t : State) (b₁ b₂ b₃ b₄ b₅ : Bool), i ≠ .rdst → exec i s = .next t →
    ∃ t', exec i (s.withSticky b₁ b₂ b₃ b₄ b₅) = .next t' ∧
      ∃ c₁ c₂ c₃ c₄ c₅, t' = t.withSticky c₁ c₂ c₃ c₄ c₅

/-- R47: the five reading commands change no state but the response, and answer the same when issued again. -/
def Obligations.ReadingHasNoSideEffect : Prop :=
  ∀ (i : Instr) (s t : State), i = .rdst ∨ i = .rdcf ∨ i = .rdx0 ∨ i = .rdx1 ∨ (∃ k, i = .rdb k) →
    exec i s = .next t → t = { s with rsp := t.rsp } ∧ exec i t = .next t

/-- R22 (a), (c), (d): the invariant is kept by every step, from every state that meets it. -/
def Obligations.InvariantKeptByEveryStep : Prop :=
  ∀ s t : State, s.Inv → step s = .next t → t.Inv

/-- R22: the invariant holds after reset, at every configuration. -/
def Obligations.InvariantHoldsAtReset : Prop :=
  ∀ c : Cfg, (State.resetWith c).Inv

/-- R31: no response and no later visible value depends on the contents the spec leaves unspecified: from two states that
agree on what is visible, every step answers alike and leads to two such states. -/
def Obligations.UnspecifiedContentsAreInvisible : Prop :=
  ∀ s₁ s₂ t₁ : State, SameVisible s₁ s₂ → step s₁ = .next t₁ → ∃ t₂, step s₂ = .next t₂ ∧ SameVisible t₁ t₂

/-! ### The host's procedures -/

/-- R171, R172: the output of the ECB procedures is, 8 bytes at a time, the encryption or decryption of the packed 8
input bytes (the last group padded as PACK pads), so `8 * ceil(n/8)` bytes; empty input gives empty output. -/
def Obligations.EcbTransformsEachBlock : Prop :=
  ∀ (s : State) (p : List Byte), s.kv = true →
    (∃ t out, encryptEcb p s = .next (t, out) ∧ out.length = 8 * ((p.length + 7) / 8) ∧
      ∀ q < (p.length + 7) / 8,
        (out.drop (8 * q)).take 8 =
          (let c := encrypt s.t s.cfg.rounds.toNat (packBlock ((p.drop (8 * q)).take 8)); w2b [c.a, c.b])) ∧
    (∃ t out, decryptEcb p s = .next (t, out) ∧ out.length = 8 * ((p.length + 7) / 8) ∧
      ∀ q < (p.length + 7) / 8,
        (out.drop (8 * q)).take 8 =
          (let c := decrypt s.t s.cfg.rounds.toNat (packBlock ((p.drop (8 * q)).take 8)); w2b [c.a, c.b]))

/-- R172: decrypting an ECB ciphertext gives back the plaintext if its length is a multiple of 8, and its padded form
otherwise. -/
def Obligations.EcbRoundTrip : Prop :=
  ∀ (s : State) (p : List Byte), s.kv = true →
    ∃ t c t' q, encryptEcb p s = .next (t, c) ∧ decryptEcb c t = .next (t', q) ∧
      q = w2b (if (b2w p).length % 2 = 1 then b2w p ++ [0] else b2w p) ∧ (p.length % 8 = 0 → q = p)

/-- R70: a line assembles exactly when its operand is present as its format asks and in range, and then to the command
of that mnemonic with that operand in its operand field. -/
def Obligations.AssemblerAcceptsExactlyInRangeOperands : Prop :=
  ∀ l : AsmLine, (∀ i, assembleLine l = some i → i.mnemonic = l.mnemonic ∧ i.arg.toNat = l.operand.getD 0) ∧
    ((∃ i, assembleLine l = some i) ↔
      (match l.mnemonic, l.operand with
       | .kpush, some v => v ≤ 255
       | .bpush, some v => v ≤ 255
       | .rdb, some v => v ≤ 7
       | .ldx0, some v => v ≤ 0xFFFFFFFF
       | .ldx1, some v => v ≤ 0xFFFFFFFF
       | .kpush, none | .bpush, none | .rdb, none | .ldx0, none | .ldx1, none => False
       | _, some _ => False
       | _, none => True))
end

