-- ==== Sys2Proof/Laws/Converter.lean ====
section
/-! SUPPORT. The converter: lengths, whole chunks first, and the value of one chunk. -/

namespace Sys2Proof.Machine

@[simp] theorem b2w_nil : b2w [] = [] := rfl

theorem b2w_cons4 (b0 b1 b2 b3 : Byte) (rest : List Byte) :
    b2w (b0 :: b1 :: b2 :: b3 :: rest) = chunkWord [b0, b1, b2, b3] :: b2w rest := rfl

/-- Fewer than four bytes, but at least one, are one partial chunk. -/
theorem b2w_short (bs : List Byte) (h0 : bs ≠ []) (h4 : bs.length < 4) : b2w bs = [chunkWord bs] := by
  match bs, h0, h4 with
  | [_], _, _ => rfl
  | [_, _], _, _ => rfl
  | [_, _, _], _, _ => rfl

/-- What `b2w` does to a nonempty list: take one chunk off. -/
theorem b2w_take_drop (bs : List Byte) (h : bs ≠ []) : b2w bs = chunkWord (bs.take 4) :: b2w (bs.drop 4) := by
  match bs, h with
  | [_], _ => rfl
  | [_, _], _ => rfl
  | [_, _, _], _ => rfl
  | _ :: _ :: _ :: _ :: _, _ => rfl

/-- Whole chunks in front are converted on their own. -/
theorem b2w_append (n : Nat) : ∀ whole part : List Byte, whole.length = 4 * n → b2w (whole ++ part) = b2w whole ++ b2w part := by
  induction n with
  | zero => intro whole part h; simp [List.length_eq_zero_iff.1 h]
  | succ n ih =>
    intro whole part h
    match whole, h with
    | b0 :: b1 :: b2 :: b3 :: rest, h =>
      have hr : rest.length = 4 * n := by simp at h; omega
      simp only [List.cons_append, b2w_cons4, ih rest part hr]

@[simp] theorem w2b_nil : w2b [] = [] := rfl

@[simp] theorem w2b_cons (w : Word) (ws : List Word) : w2b (w :: ws) = wordBytes w ++ w2b ws := rfl

@[simp] theorem wordBytes_length (w : Word) : (wordBytes w).length = 4 := rfl

theorem w2b_append (ws vs : List Word) : w2b (ws ++ vs) = w2b ws ++ w2b vs := by
  simp [w2b]

/-- The byte swap puts byte `3 - i` at position `i`. -/
theorem byteOfWord_bswap (x : Word) :
    byteOfWord (bswap x) 0 = byteOfWord x 3 ∧ byteOfWord (bswap x) 1 = byteOfWord x 2 ∧
      byteOfWord (bswap x) 2 = byteOfWord x 1 ∧ byteOfWord (bswap x) 3 = byteOfWord x 0 := by
  refine ⟨?_, ?_, ?_, ?_⟩ <;>
  · apply BitVec.eq_of_getLsbD_eq
    intro i hi
    simp only [byteOfWord, bswap, BitVec.getLsbD_extractLsb', BitVec.getLsbD_append]
    interval_cases i <;> simp

/-- The value of a word from its four bytes. -/
theorem toNat_eq_bytes (w : Word) :
    w.toNat = (byteOfWord w 0).toNat + 256 * (byteOfWord w 1).toNat + 65536 * (byteOfWord w 2).toNat
      + 16777216 * (byteOfWord w 3).toNat := by
  have := w.isLt
  simp only [byteOfWord, BitVec.extractLsb'_toNat, Nat.shiftRight_eq_div_pow]
  omega

/-- The accumulator of one more byte, as a number. -/
theorem accumulate_concat (chunk : List Byte) (b : Byte) :
    (accumulate (chunk ++ [b])).toNat = ((accumulate chunk).toNat * 256 + b.toNat) % 2 ^ 32 := by
  simp [accumulate, add32, Nat.shiftLeft_eq]

/-- The four bytes of a full chunk are the bytes of its word, least significant first. -/
theorem wordBytes_chunkWord (b0 b1 b2 b3 : Byte) : wordBytes (chunkWord [b0, b1, b2, b3]) = [b0, b1, b2, b3] := by
  obtain ⟨h0, h1, h2, h3⟩ := byteOfWord_bswap (accumulate [b0, b1, b2, b3])
  have hv : (accumulate [b0, b1, b2, b3]).toNat = b0.toNat * 2 ^ 24 + b1.toNat * 2 ^ 16 + b2.toNat * 2 ^ 8 + b3.toNat := by
    have e : [b0, b1, b2, b3] = [] ++ [b0] ++ [b1] ++ [b2] ++ [b3] := rfl
    rw [e, accumulate_concat, accumulate_concat, accumulate_concat, accumulate_concat]
    rw [show (accumulate []).toNat = 0 from rfl]
    have := b0.isLt; have := b1.isLt; have := b2.isLt; have := b3.isLt
    omega
  have key : ∀ t, ∀ b : Byte, (accumulate [b0, b1, b2, b3]).toNat / 2 ^ (8 * t) % 256 = b.toNat →
      byteOfWord (accumulate [b0, b1, b2, b3]) t = b := by
    intro t b h
    apply BitVec.eq_of_toNat_eq
    simp only [byteOfWord, BitVec.extractLsb'_toNat, Nat.shiftRight_eq_div_pow]
    exact h
  have := b0.isLt; have := b1.isLt; have := b2.isLt; have := b3.isLt
  simp only [wordBytes, chunkWord, h0, h1, h2, h3]
  rw [key 3 b0 (by rw [hv]; omega), key 2 b1 (by rw [hv]; omega), key 1 b2 (by rw [hv]; omega),
    key 0 b3 (by rw [hv]; omega)]

/-- A word is the word of its four bytes. -/
theorem chunkWord_wordBytes (w : Word) : chunkWord (wordBytes w) = w := by
  have h := wordBytes_chunkWord (byteOfWord w 0) (byteOfWord w 1) (byteOfWord w 2) (byteOfWord w 3)
  simp only [wordBytes, List.cons.injEq, and_true] at h
  apply BitVec.eq_of_toNat_eq
  rw [toNat_eq_bytes, toNat_eq_bytes w]
  simp only [wordBytes, h]

/-- A partial chunk is the full chunk with the missing zero bytes in front. -/
theorem chunkWord_zero_cons (chunk : List Byte) : chunkWord ((0 : Byte) :: chunk) = chunkWord chunk := by
  simp [chunkWord, accumulate, add32]

/-- The pair of words PACK forms: the first two of the conversion, padded with zero words. -/
theorem packBlock_eq (bytes : List Byte) : packBlock bytes = ⟨(b2w bytes).getD 0 0, (b2w bytes).getD 1 0⟩ := rfl

end Sys2Proof.Machine
end

