-- ==== Sys2Proof/Laws/Datapath.lean ====
section
/-! SUPPORT. The word operations in terms of the library's bit vectors. -/

namespace Sys2Proof.Machine

theorem add32_eq (x y : Word) : add32 x y = x + y := rfl

theorem sub32_eq (x y : Word) : sub32 x y = x - y := rfl

theorem xor32_eq (x y : Word) : xor32 x y = x ^^^ y := rfl

theorem rotAmount_eq (v : Word) : rotAmount v = v.toNat % 32 := by
  simp only [rotAmount, and32, Config.rotMask, BitVec.toNat_and]
  exact Nat.and_two_pow_sub_one_eq_mod v.toNat 5

theorem rotAmount_le (v : Word) : rotAmount v ≤ 31 := by
  rw [rotAmount_eq]; omega

/-- The arithmetic of a rotation: the high part shifted out equals what comes in below. -/
theorem rotation_toNat (x p q : Nat) (hx : x < 2 ^ 32) (h : p + q = 32) :
    x * 2 ^ p % 2 ^ 32 + x / 2 ^ q = x <<< p % 2 ^ 32 ||| x >>> q ∧ x * 2 ^ p % 2 ^ 32 + x / 2 ^ q < 2 ^ 32 := by
  have hsplit : (2 : Nat) ^ 32 = 2 ^ p * 2 ^ q := by rw [← pow_add, h]
  have hlow : x / 2 ^ q < 2 ^ p := by
    rw [Nat.div_lt_iff_lt_mul (by positivity), ← hsplit]; exact hx
  have hhigh : x * 2 ^ p % 2 ^ 32 = 2 ^ p * (x % 2 ^ q) := by
    rw [hsplit, Nat.mul_comm x, Nat.mul_mod_mul_left]
  have hq : x % 2 ^ q < 2 ^ q := Nat.mod_lt _ (by positivity)
  rw [Nat.shiftLeft_eq, Nat.shiftRight_eq_div_pow, hhigh]
  refine ⟨Nat.two_pow_add_eq_or_of_lt hlow _, ?_⟩
  calc 2 ^ p * (x % 2 ^ q) + x / 2 ^ q < 2 ^ p * (x % 2 ^ q) + 2 ^ p := by omega
    _ = 2 ^ p * (x % 2 ^ q + 1) := by ring
    _ ≤ 2 ^ p * 2 ^ q := Nat.mul_le_mul_left _ hq
    _ = 2 ^ 32 := hsplit.symm

theorem rotl_eq_rotateLeft (x : Word) (n : Nat) (h : n ≤ 31) : rotl x n = x.rotateLeft n := by
  obtain ⟨hor, hlt⟩ := rotation_toNat x.toNat n (32 - n) x.isLt (by omega)
  apply BitVec.eq_of_toNat_eq
  rw [rotl, BitVec.toNat_ofNat, Nat.mod_eq_of_lt hlt, hor, BitVec.toNat_rotateLeft,
    Nat.mod_eq_of_lt (show n < 32 by omega)]

theorem rotr_eq_rotateRight (x : Word) (n : Nat) (h : n ≤ 31) : rotr x n = x.rotateRight n := by
  rcases Nat.eq_zero_or_pos n with rfl | hn
  · have hx := x.isLt
    have h32 : x.toNat * 2 ^ 32 % 2 ^ 32 = 0 := Nat.mul_mod_left _ _
    apply BitVec.eq_of_toNat_eq
    rw [rotr, Nat.sub_zero, h32, BitVec.toNat_rotateRight]
    simp [Nat.shiftLeft_eq]
  · obtain ⟨hor, hlt⟩ := rotation_toNat x.toNat (32 - n) n x.isLt (by omega)
    apply BitVec.eq_of_toNat_eq
    rw [rotr, BitVec.toNat_ofNat, Nat.add_comm, Nat.mod_eq_of_lt hlt, hor, BitVec.toNat_rotateRight,
      Nat.mod_eq_of_lt (show n < 32 by omega), Nat.or_comm]

theorem entry_of_lt (ws : List Word) (i : Nat) (h : i < ws.length) : entry ws i = ws[i] := by
  simp [entry, List.getD_eq_getElem?_getD, h]

end Sys2Proof.Machine
end

