-- ==== Sys2Proof/Laws/Decode.lean ====
section
/-! SUPPORT. The fields of a word written as an opcode over an operand field, and the opcode map in both directions. -/

namespace Sys2Proof

@[simp] theorem opcodeField_append (op : BitVec 8) (arg : BitVec 32) : opcodeField (op ++ arg) = op :=
  BitVec.extractLsb'_append_eq_left

@[simp] theorem argField_append (op : BitVec 8) (arg : BitVec 32) : argField (op ++ arg) = arg :=
  BitVec.extractLsb'_append_eq_right

theorem byteField_append (op : BitVec 8) (arg : BitVec 32) : byteField (op ++ arg) = arg.extractLsb' 0 8 :=
  BitVec.extractLsb'_append_eq_of_add_le (by omega)

theorem indexField_append (op : BitVec 8) (arg : BitVec 32) : indexField (op ++ arg) = arg.extractLsb' 0 3 :=
  BitVec.extractLsb'_append_eq_of_add_le (by omega)

theorem high24_append (op : BitVec 8) (arg : BitVec 32) :
    (show Command from op ++ arg).extractLsb' 8 24 = arg.extractLsb' 8 24 :=
  BitVec.extractLsb'_append_eq_of_add_le (by omega)

theorem high29_append (op : BitVec 8) (arg : BitVec 32) :
    (show Command from op ++ arg).extractLsb' 3 29 = arg.extractLsb' 3 29 :=
  BitVec.extractLsb'_append_eq_of_add_le (by omega)

/-- Every word is its opcode over its operand field. -/
theorem word_eq_fields (c : Command) : opcodeField c ++ argField c = c := by
  apply BitVec.eq_of_toNat_eq
  have h := c.isLt
  change (opcodeField c ++ argField c : BitVec (8 + 32)).toNat = c.toNat
  rw [BitVec.toNat_append, Nat.shiftLeft_eq, Nat.mul_comm, ← Nat.two_pow_add_eq_or_of_lt (argField c).isLt]
  simp only [opcodeField, argField, BitVec.extractLsb'_toNat, Nat.shiftRight_eq_div_pow, Nat.pow_zero, Nat.div_one]
  omega

/-- Whether the operand field of a format is legal, on a word written as its two fields. -/
theorem operandLegal_append (f : Format) (op : BitVec 8) (arg : BitVec 32) :
    f.operandLegal (op ++ arg) = match f with
      | .N => arg == 0
      | .B => arg.extractLsb' 8 24 == (0 : BitVec 24)
      | .W => true
      | .I => arg.extractLsb' 3 29 == (0 : BitVec 29) := by
  cases f
  · simp [Format.operandLegal]
  · exact congrArg (· == (0 : BitVec 24)) (high24_append op arg)
  · rfl
  · exact congrArg (· == (0 : BitVec 29)) (high29_append op arg)

@[simp] theorem mnemonicOfOpcode_opcode (m : Mnemonic) : mnemonicOfOpcode m.opcode = some m := by
  cases m <;> rfl

theorem opcode_of_mnemonicOfOpcode : ∀ (op : BitVec 8) (m : Mnemonic), mnemonicOfOpcode op = some m → op = m.opcode := by
  have key : ∀ o : Fin 256, (mnemonicOfOpcode (BitVec.ofFin o)).all (fun m => m.opcode == BitVec.ofFin o) = true := by
    decide +kernel
  intro op m h
  have := key op.toFin
  rw [BitVec.ofFin_toFin, h] at this
  exact (by simpa using this : m.opcode = op).symm

@[simp] theorem withOperand_mnemonic (m : Mnemonic) (c : Command) : (m.withOperand c).mnemonic = m := by
  cases m <;> rfl

/-- What a word decodes to, once and for all: the command of its opcode if the operand field is legal. -/
theorem decode_eq_instr_iff (c : Command) (i : Instr) :
    decode c = .instr i ↔
      opcodeField c = i.mnemonic.opcode ∧ i.mnemonic.format.operandLegal c = true ∧ i = i.mnemonic.withOperand c := by
  unfold decode
  constructor
  · intro h
    split at h
    · cases h
    · next m hm =>
      split at h
      · next hl => cases h; simp [opcode_of_mnemonicOfOpcode _ _ hm, hl]
      · cases h
  · rintro ⟨hop, hl, hi⟩
    simp only [hop, mnemonicOfOpcode_opcode, hl, if_true]
    rw [← hi]

end Sys2Proof
end

