-- ==== Sys2Proof/Laws/KeySchedule.lean ====
section
/-! SUPPORT. The key schedule: what an iteration of the mix keeps, and runs of iterations. -/

namespace Sys2Proof.Machine

theorem seedFrom_length (n : Nat) (w : Word) : (seedFrom n w).length = n := by
  induction n generalizing w with
  | zero => rfl
  | succ n ih => simp [seedFrom, ih]

theorem seedFrom_succ (n : Nat) (w : Word) : seedFrom (n + 1) w = w :: seedFrom n (w + Config.magicQ) := rfl

@[simp] theorem mixStart_t (key : List Byte) (size : Nat) : (mixStart key size).t = seed size := rfl
@[simp] theorem mixStart_l (key : List Byte) (size : Nat) : (mixStart key size).l = b2w key := rfl
@[simp] theorem mixStart_a (key : List Byte) (size : Nat) : (mixStart key size).a = 0 := rfl
@[simp] theorem mixStart_b (key : List Byte) (size : Nat) : (mixStart key size).b = 0 := rfl
@[simp] theorem mixStart_i (key : List Byte) (size : Nat) : (mixStart key size).i = 0 := rfl
@[simp] theorem mixStart_j (key : List Byte) (size : Nat) : (mixStart key size).j = 0 := rfl

@[simp] theorem mixStep_t_length (m : Mix) : (mixStep m).t.length = m.t.length := by
  simp only [mixStep]; split <;> simp

@[simp] theorem mixStep_l_length (m : Mix) : (mixStep m).l.length = m.l.length := by
  simp only [mixStep]; split <;> simp

theorem mixStep_i (m : Mix) : (mixStep m).i = (m.i + 1) % m.t.length := by
  simp only [mixStep]; split <;> rfl

theorem mixStep_a (m : Mix) : (mixStep m).a = rotl (entry m.t m.i + m.a + m.b) 3 := by
  simp only [mixStep]; split <;> rfl

theorem mixStep_t (m : Mix) : (mixStep m).t = m.t.set m.i (mixStep m).a := by
  simp only [mixStep]; split <;> rfl

theorem mixStep_j (m : Mix) (h : 0 < m.l.length) : (mixStep m).j = (m.j + 1) % m.l.length := by
  simp [mixStep, h]

theorem mixStep_b (m : Mix) (h : 0 < m.l.length) :
    (mixStep m).b = rotl (entry m.l m.j + (mixStep m).a + m.b) (rotAmount ((mixStep m).a + m.b)) := by
  simp [mixStep, h, add32]

theorem mixStep_l (m : Mix) (h : 0 < m.l.length) : (mixStep m).l = m.l.set m.j (mixStep m).b := by
  simp [mixStep, h]

/-- With no key words an iteration leaves the second half alone (42_key_schedule.md R128). -/
theorem mixStep_no_key (m : Mix) (h : m.l = []) :
    (mixStep m).b = m.b ∧ (mixStep m).j = m.j ∧ (mixStep m).l = [] := by
  simp [mixStep, h]

/-- The last iteration of a run, taken off at the end. -/
theorem mixRun_succ (n : Nat) (m : Mix) : mixRun (n + 1) m = mixStep (mixRun n m) := by
  induction n generalizing m with
  | zero => rfl
  | succ n ih => exact ih (mixStep m)

@[simp] theorem mixRun_t_length (n : Nat) (m : Mix) : (mixRun n m).t.length = m.t.length := by
  induction n with
  | zero => rfl
  | succ n ih => rw [mixRun_succ, mixStep_t_length, ih]

@[simp] theorem mixRun_l_length (n : Nat) (m : Mix) : (mixRun n m).l.length = m.l.length := by
  induction n with
  | zero => rfl
  | succ n ih => rw [mixRun_succ, mixStep_l_length, ih]

@[simp] theorem expand_length (key : List Byte) (size : Nat) : (expand key size).length = size := by
  rw [expand, keySchedule, mixRun_t_length, mixStart_t, seed, seedFrom_length]

@[simp] theorem keySchedule_l_length (key : List Byte) (size : Nat) :
    (keySchedule key size).l.length = (b2w key).length := by
  rw [keySchedule, mixRun_l_length, mixStart_l]

end Sys2Proof.Machine
end

