-- ==== Sys2Proof/Laws/State.lean ====
section
/-! SUPPORT. What each shared operation does to each field of the state: one lemma per field per operation. -/

namespace Sys2Proof.Machine

/-! `State.answer` -/

@[simp] theorem State.answer_cfg (s : State) (d : Word) : (s.answer d).cfg = s.cfg := rfl
@[simp] theorem State.answer_x0 (s : State) (d : Word) : (s.answer d).x0 = s.x0 := rfl
@[simp] theorem State.answer_x1 (s : State) (d : Word) : (s.answer d).x1 = s.x1 := rfl
@[simp] theorem State.answer_kb (s : State) (d : Word) : (s.answer d).kb = s.kb := rfl
@[simp] theorem State.answer_klen (s : State) (d : Word) : (s.answer d).klen = s.klen := rfl
@[simp] theorem State.answer_bb (s : State) (d : Word) : (s.answer d).bb = s.bb := rfl
@[simp] theorem State.answer_blen (s : State) (d : Word) : (s.answer d).blen = s.blen := rfl
@[simp] theorem State.answer_l (s : State) (d : Word) : (s.answer d).l = s.l := rfl
@[simp] theorem State.answer_lc (s : State) (d : Word) : (s.answer d).lc = s.lc := rfl
@[simp] theorem State.answer_t (s : State) (d : Word) : (s.answer d).t = s.t := rfl
@[simp] theorem State.answer_kv (s : State) (d : Word) : (s.answer d).kv = s.kv := rfl
@[simp] theorem State.answer_ek (s : State) (d : Word) : (s.answer d).ek = s.ek := rfl
@[simp] theorem State.answer_ekl (s : State) (d : Word) : (s.answer d).ekl = s.ekl := rfl
@[simp] theorem State.answer_etb (s : State) (d : Word) : (s.answer d).etb = s.etb := rfl
@[simp] theorem State.answer_enk (s : State) (d : Word) : (s.answer d).enk = s.enk := rfl
@[simp] theorem State.answer_ebo (s : State) (d : Word) : (s.answer d).ebo = s.ebo := rfl
@[simp] theorem State.answer_eil (s : State) (d : Word) : (s.answer d).eil = s.eil := rfl
@[simp] theorem State.answer_ma (s : State) (d : Word) : (s.answer d).ma = s.ma := rfl
@[simp] theorem State.answer_mb (s : State) (d : Word) : (s.answer d).mb = s.mb := rfl
@[simp] theorem State.answer_mi (s : State) (d : Word) : (s.answer d).mi = s.mi := rfl
@[simp] theorem State.answer_mj (s : State) (d : Word) : (s.answer d).mj = s.mj := rfl
@[simp] theorem State.answer_mn (s : State) (d : Word) : (s.answer d).mn = s.mn := rfl
@[simp] theorem State.answer_rc (s : State) (d : Word) : (s.answer d).rc = s.rc := rfl
@[simp] theorem State.answer_inbox (s : State) (d : Word) : (s.answer d).inbox = s.inbox := rfl
@[simp] theorem State.answer_rsp (s : State) (d : Word) : (s.answer d).rsp = some (.ok d) := rfl
@[simp] theorem State.answer_draws (s : State) (d : Word) : (s.answer d).draws = s.draws := rfl

/-! `State.setSticky` -/

@[simp] theorem State.setSticky_cfg (s : State) (e : Error) :
    (s.setSticky e).cfg = s.cfg := by cases e <;> simp [State.setSticky]
@[simp] theorem State.setSticky_x0 (s : State) (e : Error) :
    (s.setSticky e).x0 = s.x0 := by cases e <;> simp [State.setSticky]
@[simp] theorem State.setSticky_x1 (s : State) (e : Error) :
    (s.setSticky e).x1 = s.x1 := by cases e <;> simp [State.setSticky]
@[simp] theorem State.setSticky_kb (s : State) (e : Error) :
    (s.setSticky e).kb = s.kb := by cases e <;> simp [State.setSticky]
@[simp] theorem State.setSticky_klen (s : State) (e : Error) :
    (s.setSticky e).klen = s.klen := by cases e <;> simp [State.setSticky]
@[simp] theorem State.setSticky_bb (s : State) (e : Error) :
    (s.setSticky e).bb = s.bb := by cases e <;> simp [State.setSticky]
@[simp] theorem State.setSticky_blen (s : State) (e : Error) :
    (s.setSticky e).blen = s.blen := by cases e <;> simp [State.setSticky]
@[simp] theorem State.setSticky_l (s : State) (e : Error) :
    (s.setSticky e).l = s.l := by cases e <;> simp [State.setSticky]
@[simp] theorem State.setSticky_lc (s : State) (e : Error) :
    (s.setSticky e).lc = s.lc := by cases e <;> simp [State.setSticky]
@[simp] theorem State.setSticky_t (s : State) (e : Error) :
    (s.setSticky e).t = s.t := by cases e <;> simp [State.setSticky]
@[simp] theorem State.setSticky_kv (s : State) (e : Error) :
    (s.setSticky e).kv = s.kv := by cases e <;> simp [State.setSticky]
@[simp] theorem State.setSticky_ek (s : State) (e : Error) :
    (s.setSticky e).ek = s.ek := by cases e <;> simp [State.setSticky]
@[simp] theorem State.setSticky_ekl (s : State) (e : Error) :
    (s.setSticky e).ekl = (s.ekl || decide (e = .keyLen)) := by cases e <;> simp [State.setSticky]
@[simp] theorem State.setSticky_etb (s : State) (e : Error) :
    (s.setSticky e).etb = (s.etb || decide (e = .table)) := by cases e <;> simp [State.setSticky]
@[simp] theorem State.setSticky_enk (s : State) (e : Error) :
    (s.setSticky e).enk = (s.enk || decide (e = .noKey)) := by cases e <;> simp [State.setSticky]
@[simp] theorem State.setSticky_ebo (s : State) (e : Error) :
    (s.setSticky e).ebo = (s.ebo || decide (e = .bovf)) := by cases e <;> simp [State.setSticky]
@[simp] theorem State.setSticky_eil (s : State) (e : Error) :
    (s.setSticky e).eil = (s.eil || decide (e = .illegal)) := by cases e <;> simp [State.setSticky]
@[simp] theorem State.setSticky_ma (s : State) (e : Error) :
    (s.setSticky e).ma = s.ma := by cases e <;> simp [State.setSticky]
@[simp] theorem State.setSticky_mb (s : State) (e : Error) :
    (s.setSticky e).mb = s.mb := by cases e <;> simp [State.setSticky]
@[simp] theorem State.setSticky_mi (s : State) (e : Error) :
    (s.setSticky e).mi = s.mi := by cases e <;> simp [State.setSticky]
@[simp] theorem State.setSticky_mj (s : State) (e : Error) :
    (s.setSticky e).mj = s.mj := by cases e <;> simp [State.setSticky]
@[simp] theorem State.setSticky_mn (s : State) (e : Error) :
    (s.setSticky e).mn = s.mn := by cases e <;> simp [State.setSticky]
@[simp] theorem State.setSticky_rc (s : State) (e : Error) :
    (s.setSticky e).rc = s.rc := by cases e <;> simp [State.setSticky]
@[simp] theorem State.setSticky_inbox (s : State) (e : Error) :
    (s.setSticky e).inbox = s.inbox := by cases e <;> simp [State.setSticky]
@[simp] theorem State.setSticky_rsp (s : State) (e : Error) :
    (s.setSticky e).rsp = s.rsp := by cases e <;> simp [State.setSticky]
@[simp] theorem State.setSticky_draws (s : State) (e : Error) :
    (s.setSticky e).draws = s.draws := by cases e <;> simp [State.setSticky]

/-! `State.raise` -/

@[simp] theorem State.raise_cfg (s : State) (e : Error) :
    (s.raise e).cfg = s.cfg := by cases e <;> simp [State.raise, State.setSticky]
@[simp] theorem State.raise_x0 (s : State) (e : Error) :
    (s.raise e).x0 = s.x0 := by cases e <;> simp [State.raise, State.setSticky]
@[simp] theorem State.raise_x1 (s : State) (e : Error) :
    (s.raise e).x1 = s.x1 := by cases e <;> simp [State.raise, State.setSticky]
@[simp] theorem State.raise_kb (s : State) (e : Error) :
    (s.raise e).kb = s.kb := by cases e <;> simp [State.raise, State.setSticky]
@[simp] theorem State.raise_klen (s : State) (e : Error) :
    (s.raise e).klen = s.klen := by cases e <;> simp [State.raise, State.setSticky]
@[simp] theorem State.raise_bb (s : State) (e : Error) :
    (s.raise e).bb = s.bb := by cases e <;> simp [State.raise, State.setSticky]
@[simp] theorem State.raise_blen (s : State) (e : Error) :
    (s.raise e).blen = s.blen := by cases e <;> simp [State.raise, State.setSticky]
@[simp] theorem State.raise_l (s : State) (e : Error) :
    (s.raise e).l = s.l := by cases e <;> simp [State.raise, State.setSticky]
@[simp] theorem State.raise_lc (s : State) (e : Error) :
    (s.raise e).lc = s.lc := by cases e <;> simp [State.raise, State.setSticky]
@[simp] theorem State.raise_t (s : State) (e : Error) :
    (s.raise e).t = s.t := by cases e <;> simp [State.raise, State.setSticky]
@[simp] theorem State.raise_kv (s : State) (e : Error) :
    (s.raise e).kv = s.kv := by cases e <;> simp [State.raise, State.setSticky]
@[simp] theorem State.raise_ek (s : State) (e : Error) :
    (s.raise e).ek = s.ek := by cases e <;> simp [State.raise, State.setSticky]
@[simp] theorem State.raise_ekl (s : State) (e : Error) :
    (s.raise e).ekl = (s.ekl || decide (e = .keyLen)) := by cases e <;> simp [State.raise, State.setSticky]
@[simp] theorem State.raise_etb (s : State) (e : Error) :
    (s.raise e).etb = (s.etb || decide (e = .table)) := by cases e <;> simp [State.raise, State.setSticky]
@[simp] theorem State.raise_enk (s : State) (e : Error) :
    (s.raise e).enk = (s.enk || decide (e = .noKey)) := by cases e <;> simp [State.raise, State.setSticky]
@[simp] theorem State.raise_ebo (s : State) (e : Error) :
    (s.raise e).ebo = (s.ebo || decide (e = .bovf)) := by cases e <;> simp [State.raise, State.setSticky]
@[simp] theorem State.raise_eil (s : State) (e : Error) :
    (s.raise e).eil = (s.eil || decide (e = .illegal)) := by cases e <;> simp [State.raise, State.setSticky]
@[simp] theorem State.raise_ma (s : State) (e : Error) :
    (s.raise e).ma = s.ma := by cases e <;> simp [State.raise, State.setSticky]
@[simp] theorem State.raise_mb (s : State) (e : Error) :
    (s.raise e).mb = s.mb := by cases e <;> simp [State.raise, State.setSticky]
@[simp] theorem State.raise_mi (s : State) (e : Error) :
    (s.raise e).mi = s.mi := by cases e <;> simp [State.raise, State.setSticky]
@[simp] theorem State.raise_mj (s : State) (e : Error) :
    (s.raise e).mj = s.mj := by cases e <;> simp [State.raise, State.setSticky]
@[simp] theorem State.raise_mn (s : State) (e : Error) :
    (s.raise e).mn = s.mn := by cases e <;> simp [State.raise, State.setSticky]
@[simp] theorem State.raise_rc (s : State) (e : Error) :
    (s.raise e).rc = s.rc := by cases e <;> simp [State.raise, State.setSticky]
@[simp] theorem State.raise_inbox (s : State) (e : Error) :
    (s.raise e).inbox = s.inbox := by cases e <;> simp [State.raise, State.setSticky]
@[simp] theorem State.raise_rsp (s : State) (e : Error) :
    (s.raise e).rsp = some (.error e) := by cases e <;> simp [State.raise, State.setSticky]
@[simp] theorem State.raise_draws (s : State) (e : Error) :
    (s.raise e).draws = s.draws := by cases e <;> simp [State.raise, State.setSticky]

/-! `State.clearSticky` -/

@[simp] theorem State.clearSticky_cfg (s : State) : (s.clearSticky).cfg = s.cfg := rfl
@[simp] theorem State.clearSticky_x0 (s : State) : (s.clearSticky).x0 = s.x0 := rfl
@[simp] theorem State.clearSticky_x1 (s : State) : (s.clearSticky).x1 = s.x1 := rfl
@[simp] theorem State.clearSticky_kb (s : State) : (s.clearSticky).kb = s.kb := rfl
@[simp] theorem State.clearSticky_klen (s : State) : (s.clearSticky).klen = s.klen := rfl
@[simp] theorem State.clearSticky_bb (s : State) : (s.clearSticky).bb = s.bb := rfl
@[simp] theorem State.clearSticky_blen (s : State) : (s.clearSticky).blen = s.blen := rfl
@[simp] theorem State.clearSticky_l (s : State) : (s.clearSticky).l = s.l := rfl
@[simp] theorem State.clearSticky_lc (s : State) : (s.clearSticky).lc = s.lc := rfl
@[simp] theorem State.clearSticky_t (s : State) : (s.clearSticky).t = s.t := rfl
@[simp] theorem State.clearSticky_kv (s : State) : (s.clearSticky).kv = s.kv := rfl
@[simp] theorem State.clearSticky_ek (s : State) : (s.clearSticky).ek = s.ek := rfl
@[simp] theorem State.clearSticky_ekl (s : State) : (s.clearSticky).ekl = false := rfl
@[simp] theorem State.clearSticky_etb (s : State) : (s.clearSticky).etb = false := rfl
@[simp] theorem State.clearSticky_enk (s : State) : (s.clearSticky).enk = false := rfl
@[simp] theorem State.clearSticky_ebo (s : State) : (s.clearSticky).ebo = false := rfl
@[simp] theorem State.clearSticky_eil (s : State) : (s.clearSticky).eil = false := rfl
@[simp] theorem State.clearSticky_ma (s : State) : (s.clearSticky).ma = s.ma := rfl
@[simp] theorem State.clearSticky_mb (s : State) : (s.clearSticky).mb = s.mb := rfl
@[simp] theorem State.clearSticky_mi (s : State) : (s.clearSticky).mi = s.mi := rfl
@[simp] theorem State.clearSticky_mj (s : State) : (s.clearSticky).mj = s.mj := rfl
@[simp] theorem State.clearSticky_mn (s : State) : (s.clearSticky).mn = s.mn := rfl
@[simp] theorem State.clearSticky_rc (s : State) : (s.clearSticky).rc = s.rc := rfl
@[simp] theorem State.clearSticky_inbox (s : State) : (s.clearSticky).inbox = s.inbox := rfl
@[simp] theorem State.clearSticky_rsp (s : State) : (s.clearSticky).rsp = s.rsp := rfl
@[simp] theorem State.clearSticky_draws (s : State) : (s.clearSticky).draws = s.draws := rfl

/-! `State.withSticky` -/

@[simp] theorem State.withSticky_cfg (s : State) (b₁ b₂ b₃ b₄ b₅ : Bool) :
    (s.withSticky b₁ b₂ b₃ b₄ b₅).cfg = s.cfg := rfl
@[simp] theorem State.withSticky_x0 (s : State) (b₁ b₂ b₃ b₄ b₅ : Bool) :
    (s.withSticky b₁ b₂ b₃ b₄ b₅).x0 = s.x0 := rfl
@[simp] theorem State.withSticky_x1 (s : State) (b₁ b₂ b₃ b₄ b₅ : Bool) :
    (s.withSticky b₁ b₂ b₃ b₄ b₅).x1 = s.x1 := rfl
@[simp] theorem State.withSticky_kb (s : State) (b₁ b₂ b₃ b₄ b₅ : Bool) :
    (s.withSticky b₁ b₂ b₃ b₄ b₅).kb = s.kb := rfl
@[simp] theorem State.withSticky_klen (s : State) (b₁ b₂ b₃ b₄ b₅ : Bool) :
    (s.withSticky b₁ b₂ b₃ b₄ b₅).klen = s.klen := rfl
@[simp] theorem State.withSticky_bb (s : State) (b₁ b₂ b₃ b₄ b₅ : Bool) :
    (s.withSticky b₁ b₂ b₃ b₄ b₅).bb = s.bb := rfl
@[simp] theorem State.withSticky_blen (s : State) (b₁ b₂ b₃ b₄ b₅ : Bool) :
    (s.withSticky b₁ b₂ b₃ b₄ b₅).blen = s.blen := rfl
@[simp] theorem State.withSticky_l (s : State) (b₁ b₂ b₃ b₄ b₅ : Bool) : (s.withSticky b₁ b₂ b₃ b₄ b₅).l = s.l := rfl
@[simp] theorem State.withSticky_lc (s : State) (b₁ b₂ b₃ b₄ b₅ : Bool) :
    (s.withSticky b₁ b₂ b₃ b₄ b₅).lc = s.lc := rfl
@[simp] theorem State.withSticky_t (s : State) (b₁ b₂ b₃ b₄ b₅ : Bool) : (s.withSticky b₁ b₂ b₃ b₄ b₅).t = s.t := rfl
@[simp] theorem State.withSticky_kv (s : State) (b₁ b₂ b₃ b₄ b₅ : Bool) :
    (s.withSticky b₁ b₂ b₃ b₄ b₅).kv = s.kv := rfl
@[simp] theorem State.withSticky_ek (s : State) (b₁ b₂ b₃ b₄ b₅ : Bool) :
    (s.withSticky b₁ b₂ b₃ b₄ b₅).ek = s.ek := rfl
@[simp] theorem State.withSticky_ekl (s : State) (b₁ b₂ b₃ b₄ b₅ : Bool) :
    (s.withSticky b₁ b₂ b₃ b₄ b₅).ekl = b₁ := rfl
@[simp] theorem State.withSticky_etb (s : State) (b₁ b₂ b₃ b₄ b₅ : Bool) :
    (s.withSticky b₁ b₂ b₃ b₄ b₅).etb = b₂ := rfl
@[simp] theorem State.withSticky_enk (s : State) (b₁ b₂ b₃ b₄ b₅ : Bool) :
    (s.withSticky b₁ b₂ b₃ b₄ b₅).enk = b₃ := rfl
@[simp] theorem State.withSticky_ebo (s : State) (b₁ b₂ b₃ b₄ b₅ : Bool) :
    (s.withSticky b₁ b₂ b₃ b₄ b₅).ebo = b₄ := rfl
@[simp] theorem State.withSticky_eil (s : State) (b₁ b₂ b₃ b₄ b₅ : Bool) :
    (s.withSticky b₁ b₂ b₃ b₄ b₅).eil = b₅ := rfl
@[simp] theorem State.withSticky_ma (s : State) (b₁ b₂ b₃ b₄ b₅ : Bool) :
    (s.withSticky b₁ b₂ b₃ b₄ b₅).ma = s.ma := rfl
@[simp] theorem State.withSticky_mb (s : State) (b₁ b₂ b₃ b₄ b₅ : Bool) :
    (s.withSticky b₁ b₂ b₃ b₄ b₅).mb = s.mb := rfl
@[simp] theorem State.withSticky_mi (s : State) (b₁ b₂ b₃ b₄ b₅ : Bool) :
    (s.withSticky b₁ b₂ b₃ b₄ b₅).mi = s.mi := rfl
@[simp] theorem State.withSticky_mj (s : State) (b₁ b₂ b₃ b₄ b₅ : Bool) :
    (s.withSticky b₁ b₂ b₃ b₄ b₅).mj = s.mj := rfl
@[simp] theorem State.withSticky_mn (s : State) (b₁ b₂ b₃ b₄ b₅ : Bool) :
    (s.withSticky b₁ b₂ b₃ b₄ b₅).mn = s.mn := rfl
@[simp] theorem State.withSticky_rc (s : State) (b₁ b₂ b₃ b₄ b₅ : Bool) :
    (s.withSticky b₁ b₂ b₃ b₄ b₅).rc = s.rc := rfl
@[simp] theorem State.withSticky_inbox (s : State) (b₁ b₂ b₃ b₄ b₅ : Bool) :
    (s.withSticky b₁ b₂ b₃ b₄ b₅).inbox = s.inbox := rfl
@[simp] theorem State.withSticky_rsp (s : State) (b₁ b₂ b₃ b₄ b₅ : Bool) :
    (s.withSticky b₁ b₂ b₃ b₄ b₅).rsp = s.rsp := rfl
@[simp] theorem State.withSticky_draws (s : State) (b₁ b₂ b₃ b₄ b₅ : Bool) :
    (s.withSticky b₁ b₂ b₃ b₄ b₅).draws = s.draws := rfl

/-! `State.clearKey` -/

@[simp] theorem State.clearKey_cfg (s : State) : (s.clearKey).cfg = s.cfg := rfl
@[simp] theorem State.clearKey_x0 (s : State) : (s.clearKey).x0 = s.x0 := rfl
@[simp] theorem State.clearKey_x1 (s : State) : (s.clearKey).x1 = s.x1 := rfl
@[simp] theorem State.clearKey_kb (s : State) : (s.clearKey).kb = s.kb := rfl
@[simp] theorem State.clearKey_klen (s : State) : (s.clearKey).klen = 0 := rfl
@[simp] theorem State.clearKey_bb (s : State) : (s.clearKey).bb = s.bb := rfl
@[simp] theorem State.clearKey_blen (s : State) : (s.clearKey).blen = s.blen := rfl
@[simp] theorem State.clearKey_l (s : State) : (s.clearKey).l = s.l := rfl
@[simp] theorem State.clearKey_lc (s : State) : (s.clearKey).lc = s.lc := rfl
@[simp] theorem State.clearKey_t (s : State) : (s.clearKey).t = s.t := rfl
@[simp] theorem State.clearKey_kv (s : State) : (s.clearKey).kv = s.kv := rfl
@[simp] theorem State.clearKey_ek (s : State) : (s.clearKey).ek = s.ek := rfl
@[simp] theorem State.clearKey_ekl (s : State) : (s.clearKey).ekl = s.ekl := rfl
@[simp] theorem State.clearKey_etb (s : State) : (s.clearKey).etb = s.etb := rfl
@[simp] theorem State.clearKey_enk (s : State) : (s.clearKey).enk = s.enk := rfl
@[simp] theorem State.clearKey_ebo (s : State) : (s.clearKey).ebo = s.ebo := rfl
@[simp] theorem State.clearKey_eil (s : State) : (s.clearKey).eil = s.eil := rfl
@[simp] theorem State.clearKey_ma (s : State) : (s.clearKey).ma = s.ma := rfl
@[simp] theorem State.clearKey_mb (s : State) : (s.clearKey).mb = s.mb := rfl
@[simp] theorem State.clearKey_mi (s : State) : (s.clearKey).mi = s.mi := rfl
@[simp] theorem State.clearKey_mj (s : State) : (s.clearKey).mj = s.mj := rfl
@[simp] theorem State.clearKey_mn (s : State) : (s.clearKey).mn = s.mn := rfl
@[simp] theorem State.clearKey_rc (s : State) : (s.clearKey).rc = s.rc := rfl
@[simp] theorem State.clearKey_inbox (s : State) : (s.clearKey).inbox = s.inbox := rfl
@[simp] theorem State.clearKey_rsp (s : State) : (s.clearKey).rsp = s.rsp := rfl
@[simp] theorem State.clearKey_draws (s : State) : (s.clearKey).draws = s.draws := rfl

/-! `State.pushKey` -/

@[simp] theorem State.pushKey_cfg (s : State) (b : Byte) :
    (s.pushKey b).cfg = s.cfg := by unfold State.pushKey; split_ifs <;> rfl
@[simp] theorem State.pushKey_x0 (s : State) (b : Byte) :
    (s.pushKey b).x0 = s.x0 := by unfold State.pushKey; split_ifs <;> rfl
@[simp] theorem State.pushKey_x1 (s : State) (b : Byte) :
    (s.pushKey b).x1 = s.x1 := by unfold State.pushKey; split_ifs <;> rfl
@[simp] theorem State.pushKey_bb (s : State) (b : Byte) :
    (s.pushKey b).bb = s.bb := by unfold State.pushKey; split_ifs <;> rfl
@[simp] theorem State.pushKey_blen (s : State) (b : Byte) :
    (s.pushKey b).blen = s.blen := by unfold State.pushKey; split_ifs <;> rfl
@[simp] theorem State.pushKey_l (s : State) (b : Byte) :
    (s.pushKey b).l = s.l := by unfold State.pushKey; split_ifs <;> rfl
@[simp] theorem State.pushKey_lc (s : State) (b : Byte) :
    (s.pushKey b).lc = s.lc := by unfold State.pushKey; split_ifs <;> rfl
@[simp] theorem State.pushKey_t (s : State) (b : Byte) :
    (s.pushKey b).t = s.t := by unfold State.pushKey; split_ifs <;> rfl
@[simp] theorem State.pushKey_kv (s : State) (b : Byte) :
    (s.pushKey b).kv = s.kv := by unfold State.pushKey; split_ifs <;> rfl
@[simp] theorem State.pushKey_ek (s : State) (b : Byte) :
    (s.pushKey b).ek = s.ek := by unfold State.pushKey; split_ifs <;> rfl
@[simp] theorem State.pushKey_ekl (s : State) (b : Byte) :
    (s.pushKey b).ekl = s.ekl := by unfold State.pushKey; split_ifs <;> rfl
@[simp] theorem State.pushKey_etb (s : State) (b : Byte) :
    (s.pushKey b).etb = s.etb := by unfold State.pushKey; split_ifs <;> rfl
@[simp] theorem State.pushKey_enk (s : State) (b : Byte) :
    (s.pushKey b).enk = s.enk := by unfold State.pushKey; split_ifs <;> rfl
@[simp] theorem State.pushKey_ebo (s : State) (b : Byte) :
    (s.pushKey b).ebo = s.ebo := by unfold State.pushKey; split_ifs <;> rfl
@[simp] theorem State.pushKey_eil (s : State) (b : Byte) :
    (s.pushKey b).eil = s.eil := by unfold State.pushKey; split_ifs <;> rfl
@[simp] theorem State.pushKey_ma (s : State) (b : Byte) :
    (s.pushKey b).ma = s.ma := by unfold State.pushKey; split_ifs <;> rfl
@[simp] theorem State.pushKey_mb (s : State) (b : Byte) :
    (s.pushKey b).mb = s.mb := by unfold State.pushKey; split_ifs <;> rfl
@[simp] theorem State.pushKey_mi (s : State) (b : Byte) :
    (s.pushKey b).mi = s.mi := by unfold State.pushKey; split_ifs <;> rfl
@[simp] theorem State.pushKey_mj (s : State) (b : Byte) :
    (s.pushKey b).mj = s.mj := by unfold State.pushKey; split_ifs <;> rfl
@[simp] theorem State.pushKey_mn (s : State) (b : Byte) :
    (s.pushKey b).mn = s.mn := by unfold State.pushKey; split_ifs <;> rfl
@[simp] theorem State.pushKey_rc (s : State) (b : Byte) :
    (s.pushKey b).rc = s.rc := by unfold State.pushKey; split_ifs <;> rfl
@[simp] theorem State.pushKey_inbox (s : State) (b : Byte) :
    (s.pushKey b).inbox = s.inbox := by unfold State.pushKey; split_ifs <;> rfl
@[simp] theorem State.pushKey_rsp (s : State) (b : Byte) :
    (s.pushKey b).rsp = s.rsp := by unfold State.pushKey; split_ifs <;> rfl
@[simp] theorem State.pushKey_draws (s : State) (b : Byte) :
    (s.pushKey b).draws = s.draws := by unfold State.pushKey; split_ifs <;> rfl

/-! `State.clearBlock` -/

@[simp] theorem State.clearBlock_cfg (s : State) : (s.clearBlock).cfg = s.cfg := rfl
@[simp] theorem State.clearBlock_x0 (s : State) : (s.clearBlock).x0 = s.x0 := rfl
@[simp] theorem State.clearBlock_x1 (s : State) : (s.clearBlock).x1 = s.x1 := rfl
@[simp] theorem State.clearBlock_kb (s : State) : (s.clearBlock).kb = s.kb := rfl
@[simp] theorem State.clearBlock_klen (s : State) : (s.clearBlock).klen = s.klen := rfl
@[simp] theorem State.clearBlock_bb (s : State) : (s.clearBlock).bb = s.bb := rfl
@[simp] theorem State.clearBlock_blen (s : State) : (s.clearBlock).blen = 0 := rfl
@[simp] theorem State.clearBlock_l (s : State) : (s.clearBlock).l = s.l := rfl
@[simp] theorem State.clearBlock_lc (s : State) : (s.clearBlock).lc = s.lc := rfl
@[simp] theorem State.clearBlock_t (s : State) : (s.clearBlock).t = s.t := rfl
@[simp] theorem State.clearBlock_kv (s : State) : (s.clearBlock).kv = s.kv := rfl
@[simp] theorem State.clearBlock_ek (s : State) : (s.clearBlock).ek = s.ek := rfl
@[simp] theorem State.clearBlock_ekl (s : State) : (s.clearBlock).ekl = s.ekl := rfl
@[simp] theorem State.clearBlock_etb (s : State) : (s.clearBlock).etb = s.etb := rfl
@[simp] theorem State.clearBlock_enk (s : State) : (s.clearBlock).enk = s.enk := rfl
@[simp] theorem State.clearBlock_ebo (s : State) : (s.clearBlock).ebo = s.ebo := rfl
@[simp] theorem State.clearBlock_eil (s : State) : (s.clearBlock).eil = s.eil := rfl
@[simp] theorem State.clearBlock_ma (s : State) : (s.clearBlock).ma = s.ma := rfl
@[simp] theorem State.clearBlock_mb (s : State) : (s.clearBlock).mb = s.mb := rfl
@[simp] theorem State.clearBlock_mi (s : State) : (s.clearBlock).mi = s.mi := rfl
@[simp] theorem State.clearBlock_mj (s : State) : (s.clearBlock).mj = s.mj := rfl
@[simp] theorem State.clearBlock_mn (s : State) : (s.clearBlock).mn = s.mn := rfl
@[simp] theorem State.clearBlock_rc (s : State) : (s.clearBlock).rc = s.rc := rfl
@[simp] theorem State.clearBlock_inbox (s : State) : (s.clearBlock).inbox = s.inbox := rfl
@[simp] theorem State.clearBlock_rsp (s : State) : (s.clearBlock).rsp = s.rsp := rfl
@[simp] theorem State.clearBlock_draws (s : State) : (s.clearBlock).draws = s.draws := rfl

/-! `State.pushBlock` -/

@[simp] theorem State.pushBlock_cfg (s : State) (b : Byte) : (s.pushBlock b).cfg = s.cfg := rfl
@[simp] theorem State.pushBlock_x0 (s : State) (b : Byte) : (s.pushBlock b).x0 = s.x0 := rfl
@[simp] theorem State.pushBlock_x1 (s : State) (b : Byte) : (s.pushBlock b).x1 = s.x1 := rfl
@[simp] theorem State.pushBlock_kb (s : State) (b : Byte) : (s.pushBlock b).kb = s.kb := rfl
@[simp] theorem State.pushBlock_klen (s : State) (b : Byte) : (s.pushBlock b).klen = s.klen := rfl
@[simp] theorem State.pushBlock_bb (s : State) (b : Byte) :
    (s.pushBlock b).bb = s.bb.setIfInBounds s.blen.toNat b := rfl
@[simp] theorem State.pushBlock_blen (s : State) (b : Byte) : (s.pushBlock b).blen = s.blen + 1 := rfl
@[simp] theorem State.pushBlock_l (s : State) (b : Byte) : (s.pushBlock b).l = s.l := rfl
@[simp] theorem State.pushBlock_lc (s : State) (b : Byte) : (s.pushBlock b).lc = s.lc := rfl
@[simp] theorem State.pushBlock_t (s : State) (b : Byte) : (s.pushBlock b).t = s.t := rfl
@[simp] theorem State.pushBlock_kv (s : State) (b : Byte) : (s.pushBlock b).kv = s.kv := rfl
@[simp] theorem State.pushBlock_ek (s : State) (b : Byte) : (s.pushBlock b).ek = s.ek := rfl
@[simp] theorem State.pushBlock_ekl (s : State) (b : Byte) : (s.pushBlock b).ekl = s.ekl := rfl
@[simp] theorem State.pushBlock_etb (s : State) (b : Byte) : (s.pushBlock b).etb = s.etb := rfl
@[simp] theorem State.pushBlock_enk (s : State) (b : Byte) : (s.pushBlock b).enk = s.enk := rfl
@[simp] theorem State.pushBlock_ebo (s : State) (b : Byte) : (s.pushBlock b).ebo = s.ebo := rfl
@[simp] theorem State.pushBlock_eil (s : State) (b : Byte) : (s.pushBlock b).eil = s.eil := rfl
@[simp] theorem State.pushBlock_ma (s : State) (b : Byte) : (s.pushBlock b).ma = s.ma := rfl
@[simp] theorem State.pushBlock_mb (s : State) (b : Byte) : (s.pushBlock b).mb = s.mb := rfl
@[simp] theorem State.pushBlock_mi (s : State) (b : Byte) : (s.pushBlock b).mi = s.mi := rfl
@[simp] theorem State.pushBlock_mj (s : State) (b : Byte) : (s.pushBlock b).mj = s.mj := rfl
@[simp] theorem State.pushBlock_mn (s : State) (b : Byte) : (s.pushBlock b).mn = s.mn := rfl
@[simp] theorem State.pushBlock_rc (s : State) (b : Byte) : (s.pushBlock b).rc = s.rc := rfl
@[simp] theorem State.pushBlock_inbox (s : State) (b : Byte) : (s.pushBlock b).inbox = s.inbox := rfl
@[simp] theorem State.pushBlock_rsp (s : State) (b : Byte) : (s.pushBlock b).rsp = s.rsp := rfl
@[simp] theorem State.pushBlock_draws (s : State) (b : Byte) : (s.pushBlock b).draws = s.draws := rfl

/-! `State.writeX` -/

@[simp] theorem State.writeX_cfg (s : State) (r : BitVec 1) (v : Word) :
    (s.writeX r v).cfg = s.cfg := by unfold State.writeX; split_ifs <;> rfl
@[simp] theorem State.writeX_x0 (s : State) (r : BitVec 1) (v : Word) :
    (s.writeX r v).x0 = if r = 0 then v else s.x0 := by unfold State.writeX; split_ifs <;> rfl
@[simp] theorem State.writeX_x1 (s : State) (r : BitVec 1) (v : Word) :
    (s.writeX r v).x1 = if r = 0 then s.x1 else v := by unfold State.writeX; split_ifs <;> rfl
@[simp] theorem State.writeX_kb (s : State) (r : BitVec 1) (v : Word) :
    (s.writeX r v).kb = s.kb := by unfold State.writeX; split_ifs <;> rfl
@[simp] theorem State.writeX_klen (s : State) (r : BitVec 1) (v : Word) :
    (s.writeX r v).klen = s.klen := by unfold State.writeX; split_ifs <;> rfl
@[simp] theorem State.writeX_bb (s : State) (r : BitVec 1) (v : Word) :
    (s.writeX r v).bb = s.bb := by unfold State.writeX; split_ifs <;> rfl
@[simp] theorem State.writeX_blen (s : State) (r : BitVec 1) (v : Word) :
    (s.writeX r v).blen = s.blen := by unfold State.writeX; split_ifs <;> rfl
@[simp] theorem State.writeX_l (s : State) (r : BitVec 1) (v : Word) :
    (s.writeX r v).l = s.l := by unfold State.writeX; split_ifs <;> rfl
@[simp] theorem State.writeX_lc (s : State) (r : BitVec 1) (v : Word) :
    (s.writeX r v).lc = s.lc := by unfold State.writeX; split_ifs <;> rfl
@[simp] theorem State.writeX_t (s : State) (r : BitVec 1) (v : Word) :
    (s.writeX r v).t = s.t := by unfold State.writeX; split_ifs <;> rfl
@[simp] theorem State.writeX_kv (s : State) (r : BitVec 1) (v : Word) :
    (s.writeX r v).kv = s.kv := by unfold State.writeX; split_ifs <;> rfl
@[simp] theorem State.writeX_ek (s : State) (r : BitVec 1) (v : Word) :
    (s.writeX r v).ek = s.ek := by unfold State.writeX; split_ifs <;> rfl
@[simp] theorem State.writeX_ekl (s : State) (r : BitVec 1) (v : Word) :
    (s.writeX r v).ekl = s.ekl := by unfold State.writeX; split_ifs <;> rfl
@[simp] theorem State.writeX_etb (s : State) (r : BitVec 1) (v : Word) :
    (s.writeX r v).etb = s.etb := by unfold State.writeX; split_ifs <;> rfl
@[simp] theorem State.writeX_enk (s : State) (r : BitVec 1) (v : Word) :
    (s.writeX r v).enk = s.enk := by unfold State.writeX; split_ifs <;> rfl
@[simp] theorem State.writeX_ebo (s : State) (r : BitVec 1) (v : Word) :
    (s.writeX r v).ebo = s.ebo := by unfold State.writeX; split_ifs <;> rfl
@[simp] theorem State.writeX_eil (s : State) (r : BitVec 1) (v : Word) :
    (s.writeX r v).eil = s.eil := by unfold State.writeX; split_ifs <;> rfl
@[simp] theorem State.writeX_ma (s : State) (r : BitVec 1) (v : Word) :
    (s.writeX r v).ma = s.ma := by unfold State.writeX; split_ifs <;> rfl
@[simp] theorem State.writeX_mb (s : State) (r : BitVec 1) (v : Word) :
    (s.writeX r v).mb = s.mb := by unfold State.writeX; split_ifs <;> rfl
@[simp] theorem State.writeX_mi (s : State) (r : BitVec 1) (v : Word) :
    (s.writeX r v).mi = s.mi := by unfold State.writeX; split_ifs <;> rfl
@[simp] theorem State.writeX_mj (s : State) (r : BitVec 1) (v : Word) :
    (s.writeX r v).mj = s.mj := by unfold State.writeX; split_ifs <;> rfl
@[simp] theorem State.writeX_mn (s : State) (r : BitVec 1) (v : Word) :
    (s.writeX r v).mn = s.mn := by unfold State.writeX; split_ifs <;> rfl
@[simp] theorem State.writeX_rc (s : State) (r : BitVec 1) (v : Word) :
    (s.writeX r v).rc = s.rc := by unfold State.writeX; split_ifs <;> rfl
@[simp] theorem State.writeX_inbox (s : State) (r : BitVec 1) (v : Word) :
    (s.writeX r v).inbox = s.inbox := by unfold State.writeX; split_ifs <;> rfl
@[simp] theorem State.writeX_rsp (s : State) (r : BitVec 1) (v : Word) :
    (s.writeX r v).rsp = s.rsp := by unfold State.writeX; split_ifs <;> rfl
@[simp] theorem State.writeX_draws (s : State) (r : BitVec 1) (v : Word) :
    (s.writeX r v).draws = s.draws := by unfold State.writeX; split_ifs <;> rfl

/-! `State.writeBlock` -/

@[simp] theorem State.writeBlock_cfg (s : State) (p : Block) : (s.writeBlock p).cfg = s.cfg := rfl
@[simp] theorem State.writeBlock_x0 (s : State) (p : Block) : (s.writeBlock p).x0 = p.a := rfl
@[simp] theorem State.writeBlock_x1 (s : State) (p : Block) : (s.writeBlock p).x1 = p.b := rfl
@[simp] theorem State.writeBlock_kb (s : State) (p : Block) : (s.writeBlock p).kb = s.kb := rfl
@[simp] theorem State.writeBlock_klen (s : State) (p : Block) : (s.writeBlock p).klen = s.klen := rfl
@[simp] theorem State.writeBlock_bb (s : State) (p : Block) : (s.writeBlock p).bb = s.bb := rfl
@[simp] theorem State.writeBlock_blen (s : State) (p : Block) : (s.writeBlock p).blen = s.blen := rfl
@[simp] theorem State.writeBlock_l (s : State) (p : Block) : (s.writeBlock p).l = s.l := rfl
@[simp] theorem State.writeBlock_lc (s : State) (p : Block) : (s.writeBlock p).lc = s.lc := rfl
@[simp] theorem State.writeBlock_t (s : State) (p : Block) : (s.writeBlock p).t = s.t := rfl
@[simp] theorem State.writeBlock_kv (s : State) (p : Block) : (s.writeBlock p).kv = s.kv := rfl
@[simp] theorem State.writeBlock_ek (s : State) (p : Block) : (s.writeBlock p).ek = s.ek := rfl
@[simp] theorem State.writeBlock_ekl (s : State) (p : Block) : (s.writeBlock p).ekl = s.ekl := rfl
@[simp] theorem State.writeBlock_etb (s : State) (p : Block) : (s.writeBlock p).etb = s.etb := rfl
@[simp] theorem State.writeBlock_enk (s : State) (p : Block) : (s.writeBlock p).enk = s.enk := rfl
@[simp] theorem State.writeBlock_ebo (s : State) (p : Block) : (s.writeBlock p).ebo = s.ebo := rfl
@[simp] theorem State.writeBlock_eil (s : State) (p : Block) : (s.writeBlock p).eil = s.eil := rfl
@[simp] theorem State.writeBlock_ma (s : State) (p : Block) : (s.writeBlock p).ma = s.ma := rfl
@[simp] theorem State.writeBlock_mb (s : State) (p : Block) : (s.writeBlock p).mb = s.mb := rfl
@[simp] theorem State.writeBlock_mi (s : State) (p : Block) : (s.writeBlock p).mi = s.mi := rfl
@[simp] theorem State.writeBlock_mj (s : State) (p : Block) : (s.writeBlock p).mj = s.mj := rfl
@[simp] theorem State.writeBlock_mn (s : State) (p : Block) : (s.writeBlock p).mn = s.mn := rfl
@[simp] theorem State.writeBlock_rc (s : State) (p : Block) : (s.writeBlock p).rc = s.rc := rfl
@[simp] theorem State.writeBlock_inbox (s : State) (p : Block) : (s.writeBlock p).inbox = s.inbox := rfl
@[simp] theorem State.writeBlock_rsp (s : State) (p : Block) : (s.writeBlock p).rsp = s.rsp := rfl
@[simp] theorem State.writeBlock_draws (s : State) (p : Block) : (s.writeBlock p).draws = s.draws := rfl

/-! `State.leaveMixWork` -/

@[simp] theorem State.leaveMixWork_cfg (s : State) : (s.leaveMixWork).cfg = s.cfg := rfl
@[simp] theorem State.leaveMixWork_x0 (s : State) : (s.leaveMixWork).x0 = s.x0 := rfl
@[simp] theorem State.leaveMixWork_x1 (s : State) : (s.leaveMixWork).x1 = s.x1 := rfl
@[simp] theorem State.leaveMixWork_kb (s : State) : (s.leaveMixWork).kb = s.kb := rfl
@[simp] theorem State.leaveMixWork_klen (s : State) : (s.leaveMixWork).klen = s.klen := rfl
@[simp] theorem State.leaveMixWork_bb (s : State) : (s.leaveMixWork).bb = s.bb := rfl
@[simp] theorem State.leaveMixWork_blen (s : State) : (s.leaveMixWork).blen = s.blen := rfl
@[simp] theorem State.leaveMixWork_l (s : State) : (s.leaveMixWork).l = s.l := rfl
@[simp] theorem State.leaveMixWork_lc (s : State) : (s.leaveMixWork).lc = s.lc := rfl
@[simp] theorem State.leaveMixWork_t (s : State) : (s.leaveMixWork).t = s.t := rfl
@[simp] theorem State.leaveMixWork_kv (s : State) : (s.leaveMixWork).kv = s.kv := rfl
@[simp] theorem State.leaveMixWork_ek (s : State) : (s.leaveMixWork).ek = s.ek := rfl
@[simp] theorem State.leaveMixWork_ekl (s : State) : (s.leaveMixWork).ekl = s.ekl := rfl
@[simp] theorem State.leaveMixWork_etb (s : State) : (s.leaveMixWork).etb = s.etb := rfl
@[simp] theorem State.leaveMixWork_enk (s : State) : (s.leaveMixWork).enk = s.enk := rfl
@[simp] theorem State.leaveMixWork_ebo (s : State) : (s.leaveMixWork).ebo = s.ebo := rfl
@[simp] theorem State.leaveMixWork_eil (s : State) : (s.leaveMixWork).eil = s.eil := rfl
@[simp] theorem State.leaveMixWork_ma (s : State) : (s.leaveMixWork).ma = Config.freeMA s.draws := rfl
@[simp] theorem State.leaveMixWork_mb (s : State) : (s.leaveMixWork).mb = Config.freeMB s.draws := rfl
@[simp] theorem State.leaveMixWork_mi (s : State) : (s.leaveMixWork).mi = Config.freeMI s.draws := rfl
@[simp] theorem State.leaveMixWork_mj (s : State) : (s.leaveMixWork).mj = Config.freeMJ s.draws := rfl
@[simp] theorem State.leaveMixWork_mn (s : State) : (s.leaveMixWork).mn = Config.freeMN s.draws := rfl
@[simp] theorem State.leaveMixWork_rc (s : State) : (s.leaveMixWork).rc = s.rc := rfl
@[simp] theorem State.leaveMixWork_inbox (s : State) : (s.leaveMixWork).inbox = s.inbox := rfl
@[simp] theorem State.leaveMixWork_rsp (s : State) : (s.leaveMixWork).rsp = s.rsp := rfl
@[simp] theorem State.leaveMixWork_draws (s : State) : (s.leaveMixWork).draws = s.draws + 1 := rfl

/-! `State.leaveRoundWork` -/

@[simp] theorem State.leaveRoundWork_cfg (s : State) : (s.leaveRoundWork).cfg = s.cfg := rfl
@[simp] theorem State.leaveRoundWork_x0 (s : State) : (s.leaveRoundWork).x0 = s.x0 := rfl
@[simp] theorem State.leaveRoundWork_x1 (s : State) : (s.leaveRoundWork).x1 = s.x1 := rfl
@[simp] theorem State.leaveRoundWork_kb (s : State) : (s.leaveRoundWork).kb = s.kb := rfl
@[simp] theorem State.leaveRoundWork_klen (s : State) : (s.leaveRoundWork).klen = s.klen := rfl
@[simp] theorem State.leaveRoundWork_bb (s : State) : (s.leaveRoundWork).bb = s.bb := rfl
@[simp] theorem State.leaveRoundWork_blen (s : State) : (s.leaveRoundWork).blen = s.blen := rfl
@[simp] theorem State.leaveRoundWork_l (s : State) : (s.leaveRoundWork).l = s.l := rfl
@[simp] theorem State.leaveRoundWork_lc (s : State) : (s.leaveRoundWork).lc = s.lc := rfl
@[simp] theorem State.leaveRoundWork_t (s : State) : (s.leaveRoundWork).t = s.t := rfl
@[simp] theorem State.leaveRoundWork_kv (s : State) : (s.leaveRoundWork).kv = s.kv := rfl
@[simp] theorem State.leaveRoundWork_ek (s : State) : (s.leaveRoundWork).ek = s.ek := rfl
@[simp] theorem State.leaveRoundWork_ekl (s : State) : (s.leaveRoundWork).ekl = s.ekl := rfl
@[simp] theorem State.leaveRoundWork_etb (s : State) : (s.leaveRoundWork).etb = s.etb := rfl
@[simp] theorem State.leaveRoundWork_enk (s : State) : (s.leaveRoundWork).enk = s.enk := rfl
@[simp] theorem State.leaveRoundWork_ebo (s : State) : (s.leaveRoundWork).ebo = s.ebo := rfl
@[simp] theorem State.leaveRoundWork_eil (s : State) : (s.leaveRoundWork).eil = s.eil := rfl
@[simp] theorem State.leaveRoundWork_ma (s : State) : (s.leaveRoundWork).ma = Config.freeMA s.draws := rfl
@[simp] theorem State.leaveRoundWork_mb (s : State) : (s.leaveRoundWork).mb = Config.freeMB s.draws := rfl
@[simp] theorem State.leaveRoundWork_mi (s : State) : (s.leaveRoundWork).mi = s.mi := rfl
@[simp] theorem State.leaveRoundWork_mj (s : State) : (s.leaveRoundWork).mj = s.mj := rfl
@[simp] theorem State.leaveRoundWork_mn (s : State) : (s.leaveRoundWork).mn = s.mn := rfl
@[simp] theorem State.leaveRoundWork_rc (s : State) : (s.leaveRoundWork).rc = Config.freeRC s.draws := rfl
@[simp] theorem State.leaveRoundWork_inbox (s : State) : (s.leaveRoundWork).inbox = s.inbox := rfl
@[simp] theorem State.leaveRoundWork_rsp (s : State) : (s.leaveRoundWork).rsp = s.rsp := rfl
@[simp] theorem State.leaveRoundWork_draws (s : State) : (s.leaveRoundWork).draws = s.draws + 1 := rfl

/-! `State.adopt` -/

@[simp] theorem State.adopt_cfg (s : State) (m : Mix) : (s.adopt m).cfg = s.cfg := by simp only [State.adopt]
@[simp] theorem State.adopt_x0 (s : State) (m : Mix) : (s.adopt m).x0 = s.x0 := by simp only [State.adopt]
@[simp] theorem State.adopt_x1 (s : State) (m : Mix) : (s.adopt m).x1 = s.x1 := by simp only [State.adopt]
@[simp] theorem State.adopt_kb (s : State) (m : Mix) : (s.adopt m).kb = s.kb := by simp only [State.adopt]
@[simp] theorem State.adopt_klen (s : State) (m : Mix) : (s.adopt m).klen = s.klen := by simp only [State.adopt]
@[simp] theorem State.adopt_bb (s : State) (m : Mix) : (s.adopt m).bb = s.bb := by simp only [State.adopt]
@[simp] theorem State.adopt_blen (s : State) (m : Mix) : (s.adopt m).blen = s.blen := by simp only [State.adopt]
@[simp] theorem State.adopt_l (s : State) (m : Mix) :
    (s.adopt m).l = fillKeyWords s.l m.l := by simp only [State.adopt]
@[simp] theorem State.adopt_lc (s : State) (m : Mix) :
    (s.adopt m).lc = BitVec.ofNat 7 m.l.length := by simp only [State.adopt]
@[simp] theorem State.adopt_t (s : State) (m : Mix) : (s.adopt m).t = m.t := by simp only [State.adopt]
@[simp] theorem State.adopt_kv (s : State) (m : Mix) : (s.adopt m).kv = true := by simp only [State.adopt]
@[simp] theorem State.adopt_ek (s : State) (m : Mix) :
    (s.adopt m).ek = decide (s.klen = 0) := by simp only [State.adopt]
@[simp] theorem State.adopt_ekl (s : State) (m : Mix) : (s.adopt m).ekl = s.ekl := by simp only [State.adopt]
@[simp] theorem State.adopt_etb (s : State) (m : Mix) : (s.adopt m).etb = s.etb := by simp only [State.adopt]
@[simp] theorem State.adopt_enk (s : State) (m : Mix) : (s.adopt m).enk = s.enk := by simp only [State.adopt]
@[simp] theorem State.adopt_ebo (s : State) (m : Mix) : (s.adopt m).ebo = s.ebo := by simp only [State.adopt]
@[simp] theorem State.adopt_eil (s : State) (m : Mix) : (s.adopt m).eil = s.eil := by simp only [State.adopt]
@[simp] theorem State.adopt_ma (s : State) (m : Mix) : (s.adopt m).ma = s.ma := by simp only [State.adopt]
@[simp] theorem State.adopt_mb (s : State) (m : Mix) : (s.adopt m).mb = s.mb := by simp only [State.adopt]
@[simp] theorem State.adopt_mi (s : State) (m : Mix) : (s.adopt m).mi = s.mi := by simp only [State.adopt]
@[simp] theorem State.adopt_mj (s : State) (m : Mix) : (s.adopt m).mj = s.mj := by simp only [State.adopt]
@[simp] theorem State.adopt_mn (s : State) (m : Mix) : (s.adopt m).mn = s.mn := by simp only [State.adopt]
@[simp] theorem State.adopt_rc (s : State) (m : Mix) : (s.adopt m).rc = s.rc := by simp only [State.adopt]
@[simp] theorem State.adopt_inbox (s : State) (m : Mix) : (s.adopt m).inbox = s.inbox := by simp only [State.adopt]
@[simp] theorem State.adopt_rsp (s : State) (m : Mix) : (s.adopt m).rsp = s.rsp := by simp only [State.adopt]
@[simp] theorem State.adopt_draws (s : State) (m : Mix) : (s.adopt m).draws = s.draws := by simp only [State.adopt]

/-! `State.construct` -/

@[simp] theorem State.construct_cfg (s : State) :
    (s.construct).cfg = s.cfg := by simp only [State.construct, State.adopt_cfg]
@[simp] theorem State.construct_x0 (s : State) :
    (s.construct).x0 = s.x0 := by simp only [State.construct, State.adopt_x0]
@[simp] theorem State.construct_x1 (s : State) :
    (s.construct).x1 = s.x1 := by simp only [State.construct, State.adopt_x1]
@[simp] theorem State.construct_kb (s : State) :
    (s.construct).kb = s.kb := by simp only [State.construct, State.adopt_kb]
@[simp] theorem State.construct_klen (s : State) :
    (s.construct).klen = s.klen := by simp only [State.construct, State.adopt_klen]
@[simp] theorem State.construct_bb (s : State) :
    (s.construct).bb = s.bb := by simp only [State.construct, State.adopt_bb]
@[simp] theorem State.construct_blen (s : State) :
    (s.construct).blen = s.blen := by simp only [State.construct, State.adopt_blen]
@[simp] theorem State.construct_l (s : State) :
    (s.construct).l = fillKeyWords s.l (keySchedule s.keyMaterial s.cfg.tableWords.toNat).l := by simp only [State.construct, State.adopt_l]
@[simp] theorem State.construct_lc (s : State) :
    (s.construct).lc = BitVec.ofNat 7 (keySchedule s.keyMaterial s.cfg.tableWords.toNat).l.length := by simp only [State.construct, State.adopt_lc]
@[simp] theorem State.construct_t (s : State) :
    (s.construct).t = expand s.keyMaterial s.cfg.tableWords.toNat := by simp only [State.construct, State.adopt_t, expand]
@[simp] theorem State.construct_kv (s : State) :
    (s.construct).kv = true := by simp only [State.construct, State.adopt_kv]
@[simp] theorem State.construct_ek (s : State) :
    (s.construct).ek = decide (s.klen = 0) := by simp only [State.construct, State.adopt_ek]
@[simp] theorem State.construct_ekl (s : State) :
    (s.construct).ekl = s.ekl := by simp only [State.construct, State.adopt_ekl]
@[simp] theorem State.construct_etb (s : State) :
    (s.construct).etb = s.etb := by simp only [State.construct, State.adopt_etb]
@[simp] theorem State.construct_enk (s : State) :
    (s.construct).enk = s.enk := by simp only [State.construct, State.adopt_enk]
@[simp] theorem State.construct_ebo (s : State) :
    (s.construct).ebo = s.ebo := by simp only [State.construct, State.adopt_ebo]
@[simp] theorem State.construct_eil (s : State) :
    (s.construct).eil = s.eil := by simp only [State.construct, State.adopt_eil]
@[simp] theorem State.construct_ma (s : State) :
    (s.construct).ma = s.ma := by simp only [State.construct, State.adopt_ma]
@[simp] theorem State.construct_mb (s : State) :
    (s.construct).mb = s.mb := by simp only [State.construct, State.adopt_mb]
@[simp] theorem State.construct_mi (s : State) :
    (s.construct).mi = s.mi := by simp only [State.construct, State.adopt_mi]
@[simp] theorem State.construct_mj (s : State) :
    (s.construct).mj = s.mj := by simp only [State.construct, State.adopt_mj]
@[simp] theorem State.construct_mn (s : State) :
    (s.construct).mn = s.mn := by simp only [State.construct, State.adopt_mn]
@[simp] theorem State.construct_rc (s : State) :
    (s.construct).rc = s.rc := by simp only [State.construct, State.adopt_rc]
@[simp] theorem State.construct_inbox (s : State) :
    (s.construct).inbox = s.inbox := by simp only [State.construct, State.adopt_inbox]
@[simp] theorem State.construct_rsp (s : State) :
    (s.construct).rsp = s.rsp := by simp only [State.construct, State.adopt_rsp]
@[simp] theorem State.construct_draws (s : State) :
    (s.construct).draws = s.draws := by simp only [State.construct, State.adopt_draws]

/-! `State.endInstance` -/

@[simp] theorem State.endInstance_cfg (s : State) : (s.endInstance).cfg = s.cfg := rfl
@[simp] theorem State.endInstance_x0 (s : State) : (s.endInstance).x0 = s.x0 := rfl
@[simp] theorem State.endInstance_x1 (s : State) : (s.endInstance).x1 = s.x1 := rfl
@[simp] theorem State.endInstance_kb (s : State) : (s.endInstance).kb = s.kb := rfl
@[simp] theorem State.endInstance_klen (s : State) : (s.endInstance).klen = s.klen := rfl
@[simp] theorem State.endInstance_bb (s : State) : (s.endInstance).bb = s.bb := rfl
@[simp] theorem State.endInstance_blen (s : State) : (s.endInstance).blen = s.blen := rfl
@[simp] theorem State.endInstance_l (s : State) : (s.endInstance).l = s.l := rfl
@[simp] theorem State.endInstance_lc (s : State) : (s.endInstance).lc = s.lc := rfl
@[simp] theorem State.endInstance_t (s : State) : (s.endInstance).t = s.t := rfl
@[simp] theorem State.endInstance_kv (s : State) : (s.endInstance).kv = false := rfl
@[simp] theorem State.endInstance_ek (s : State) : (s.endInstance).ek = false := rfl
@[simp] theorem State.endInstance_ekl (s : State) : (s.endInstance).ekl = s.ekl := rfl
@[simp] theorem State.endInstance_etb (s : State) : (s.endInstance).etb = s.etb := rfl
@[simp] theorem State.endInstance_enk (s : State) : (s.endInstance).enk = s.enk := rfl
@[simp] theorem State.endInstance_ebo (s : State) : (s.endInstance).ebo = s.ebo := rfl
@[simp] theorem State.endInstance_eil (s : State) : (s.endInstance).eil = s.eil := rfl
@[simp] theorem State.endInstance_ma (s : State) : (s.endInstance).ma = s.ma := rfl
@[simp] theorem State.endInstance_mb (s : State) : (s.endInstance).mb = s.mb := rfl
@[simp] theorem State.endInstance_mi (s : State) : (s.endInstance).mi = s.mi := rfl
@[simp] theorem State.endInstance_mj (s : State) : (s.endInstance).mj = s.mj := rfl
@[simp] theorem State.endInstance_mn (s : State) : (s.endInstance).mn = s.mn := rfl
@[simp] theorem State.endInstance_rc (s : State) : (s.endInstance).rc = s.rc := rfl
@[simp] theorem State.endInstance_inbox (s : State) : (s.endInstance).inbox = s.inbox := rfl
@[simp] theorem State.endInstance_rsp (s : State) : (s.endInstance).rsp = s.rsp := rfl
@[simp] theorem State.endInstance_draws (s : State) : (s.endInstance).draws = s.draws := rfl

/-! `State.transformBlock` -/

@[simp] theorem State.transformBlock_cfg (s : State) (f : List Word → Nat → Block → Block) :
    (s.transformBlock f).cfg = s.cfg := rfl
@[simp] theorem State.transformBlock_x0 (s : State) (f : List Word → Nat → Block → Block) :
    (s.transformBlock f).x0 = (f s.t s.cfg.rounds.toNat s.block).a := rfl
@[simp] theorem State.transformBlock_x1 (s : State) (f : List Word → Nat → Block → Block) :
    (s.transformBlock f).x1 = (f s.t s.cfg.rounds.toNat s.block).b := rfl
@[simp] theorem State.transformBlock_kb (s : State) (f : List Word → Nat → Block → Block) :
    (s.transformBlock f).kb = s.kb := rfl
@[simp] theorem State.transformBlock_klen (s : State) (f : List Word → Nat → Block → Block) :
    (s.transformBlock f).klen = s.klen := rfl
@[simp] theorem State.transformBlock_bb (s : State) (f : List Word → Nat → Block → Block) :
    (s.transformBlock f).bb = s.bb := rfl
@[simp] theorem State.transformBlock_blen (s : State) (f : List Word → Nat → Block → Block) :
    (s.transformBlock f).blen = s.blen := rfl
@[simp] theorem State.transformBlock_l (s : State) (f : List Word → Nat → Block → Block) :
    (s.transformBlock f).l = s.l := rfl
@[simp] theorem State.transformBlock_lc (s : State) (f : List Word → Nat → Block → Block) :
    (s.transformBlock f).lc = s.lc := rfl
@[simp] theorem State.transformBlock_t (s : State) (f : List Word → Nat → Block → Block) :
    (s.transformBlock f).t = s.t := rfl
@[simp] theorem State.transformBlock_kv (s : State) (f : List Word → Nat → Block → Block) :
    (s.transformBlock f).kv = s.kv := rfl
@[simp] theorem State.transformBlock_ek (s : State) (f : List Word → Nat → Block → Block) :
    (s.transformBlock f).ek = s.ek := rfl
@[simp] theorem State.transformBlock_ekl (s : State) (f : List Word → Nat → Block → Block) :
    (s.transformBlock f).ekl = s.ekl := rfl
@[simp] theorem State.transformBlock_etb (s : State) (f : List Word → Nat → Block → Block) :
    (s.transformBlock f).etb = s.etb := rfl
@[simp] theorem State.transformBlock_enk (s : State) (f : List Word → Nat → Block → Block) :
    (s.transformBlock f).enk = s.enk := rfl
@[simp] theorem State.transformBlock_ebo (s : State) (f : List Word → Nat → Block → Block) :
    (s.transformBlock f).ebo = s.ebo := rfl
@[simp] theorem State.transformBlock_eil (s : State) (f : List Word → Nat → Block → Block) :
    (s.transformBlock f).eil = s.eil := rfl
@[simp] theorem State.transformBlock_ma (s : State) (f : List Word → Nat → Block → Block) :
    (s.transformBlock f).ma = s.ma := rfl
@[simp] theorem State.transformBlock_mb (s : State) (f : List Word → Nat → Block → Block) :
    (s.transformBlock f).mb = s.mb := rfl
@[simp] theorem State.transformBlock_mi (s : State) (f : List Word → Nat → Block → Block) :
    (s.transformBlock f).mi = s.mi := rfl
@[simp] theorem State.transformBlock_mj (s : State) (f : List Word → Nat → Block → Block) :
    (s.transformBlock f).mj = s.mj := rfl
@[simp] theorem State.transformBlock_mn (s : State) (f : List Word → Nat → Block → Block) :
    (s.transformBlock f).mn = s.mn := rfl
@[simp] theorem State.transformBlock_rc (s : State) (f : List Word → Nat → Block → Block) :
    (s.transformBlock f).rc = s.rc := rfl
@[simp] theorem State.transformBlock_inbox (s : State) (f : List Word → Nat → Block → Block) :
    (s.transformBlock f).inbox = s.inbox := rfl
@[simp] theorem State.transformBlock_rsp (s : State) (f : List Word → Nat → Block → Block) :
    (s.transformBlock f).rsp = s.rsp := rfl
@[simp] theorem State.transformBlock_draws (s : State) (f : List Word → Nat → Block → Block) :
    (s.transformBlock f).draws = s.draws := rfl

/-! `State.softReset` -/

@[simp] theorem State.softReset_cfg (s : State) : (s.softReset).cfg = s.cfg := rfl
@[simp] theorem State.softReset_x0 (s : State) : (s.softReset).x0 = 0 := rfl
@[simp] theorem State.softReset_x1 (s : State) : (s.softReset).x1 = 0 := rfl
@[simp] theorem State.softReset_kb (s : State) : (s.softReset).kb = s.kb := rfl
@[simp] theorem State.softReset_klen (s : State) : (s.softReset).klen = 0 := rfl
@[simp] theorem State.softReset_bb (s : State) : (s.softReset).bb = s.bb := rfl
@[simp] theorem State.softReset_blen (s : State) : (s.softReset).blen = 0 := rfl
@[simp] theorem State.softReset_l (s : State) : (s.softReset).l = s.l := rfl
@[simp] theorem State.softReset_lc (s : State) : (s.softReset).lc = 0 := rfl
@[simp] theorem State.softReset_t (s : State) : (s.softReset).t = s.t := rfl
@[simp] theorem State.softReset_kv (s : State) : (s.softReset).kv = false := rfl
@[simp] theorem State.softReset_ek (s : State) : (s.softReset).ek = false := rfl
@[simp] theorem State.softReset_ekl (s : State) : (s.softReset).ekl = false := rfl
@[simp] theorem State.softReset_etb (s : State) : (s.softReset).etb = false := rfl
@[simp] theorem State.softReset_enk (s : State) : (s.softReset).enk = false := rfl
@[simp] theorem State.softReset_ebo (s : State) : (s.softReset).ebo = false := rfl
@[simp] theorem State.softReset_eil (s : State) : (s.softReset).eil = false := rfl
@[simp] theorem State.softReset_ma (s : State) : (s.softReset).ma = s.ma := rfl
@[simp] theorem State.softReset_mb (s : State) : (s.softReset).mb = s.mb := rfl
@[simp] theorem State.softReset_mi (s : State) : (s.softReset).mi = s.mi := rfl
@[simp] theorem State.softReset_mj (s : State) : (s.softReset).mj = s.mj := rfl
@[simp] theorem State.softReset_mn (s : State) : (s.softReset).mn = s.mn := rfl
@[simp] theorem State.softReset_rc (s : State) : (s.softReset).rc = s.rc := rfl
@[simp] theorem State.softReset_inbox (s : State) : (s.softReset).inbox = s.inbox := rfl
@[simp] theorem State.softReset_rsp (s : State) : (s.softReset).rsp = s.rsp := rfl
@[simp] theorem State.softReset_draws (s : State) : (s.softReset).draws = s.draws := rfl

/-! `State.hardReset` -/

@[simp] theorem State.hardReset_cfg (s : State) : (s.hardReset).cfg = s.cfg := rfl
@[simp] theorem State.hardReset_x0 (s : State) : (s.hardReset).x0 = 0 := rfl
@[simp] theorem State.hardReset_x1 (s : State) : (s.hardReset).x1 = 0 := rfl
@[simp] theorem State.hardReset_kb (s : State) :
    (s.hardReset).kb = Vector.ofFn fun i => Config.freeKB s.draws i := rfl
@[simp] theorem State.hardReset_klen (s : State) : (s.hardReset).klen = 0 := rfl
@[simp] theorem State.hardReset_bb (s : State) :
    (s.hardReset).bb = Vector.ofFn fun i => Config.freeBB s.draws i := rfl
@[simp] theorem State.hardReset_blen (s : State) : (s.hardReset).blen = 0 := rfl
@[simp] theorem State.hardReset_l (s : State) : (s.hardReset).l = Vector.ofFn fun j => Config.freeL s.draws j := rfl
@[simp] theorem State.hardReset_lc (s : State) : (s.hardReset).lc = 0 := rfl
@[simp] theorem State.hardReset_t (s : State) : (s.hardReset).t = s.t := rfl
@[simp] theorem State.hardReset_kv (s : State) : (s.hardReset).kv = false := rfl
@[simp] theorem State.hardReset_ek (s : State) : (s.hardReset).ek = false := rfl
@[simp] theorem State.hardReset_ekl (s : State) : (s.hardReset).ekl = false := rfl
@[simp] theorem State.hardReset_etb (s : State) : (s.hardReset).etb = false := rfl
@[simp] theorem State.hardReset_enk (s : State) : (s.hardReset).enk = false := rfl
@[simp] theorem State.hardReset_ebo (s : State) : (s.hardReset).ebo = false := rfl
@[simp] theorem State.hardReset_eil (s : State) : (s.hardReset).eil = false := rfl
@[simp] theorem State.hardReset_ma (s : State) : (s.hardReset).ma = Config.freeMA s.draws := rfl
@[simp] theorem State.hardReset_mb (s : State) : (s.hardReset).mb = Config.freeMB s.draws := rfl
@[simp] theorem State.hardReset_mi (s : State) : (s.hardReset).mi = Config.freeMI s.draws := rfl
@[simp] theorem State.hardReset_mj (s : State) : (s.hardReset).mj = Config.freeMJ s.draws := rfl
@[simp] theorem State.hardReset_mn (s : State) : (s.hardReset).mn = Config.freeMN s.draws := rfl
@[simp] theorem State.hardReset_rc (s : State) : (s.hardReset).rc = Config.freeRC s.draws := rfl
@[simp] theorem State.hardReset_inbox (s : State) : (s.hardReset).inbox = s.inbox := rfl
@[simp] theorem State.hardReset_rsp (s : State) : (s.hardReset).rsp = none := rfl
@[simp] theorem State.hardReset_draws (s : State) : (s.hardReset).draws = s.draws + 1 := rfl

/-! `State.offer` -/

@[simp] theorem State.offer_cfg (s : State) (p : PortInput) : (s.offer p).cfg = s.cfg := rfl
@[simp] theorem State.offer_x0 (s : State) (p : PortInput) : (s.offer p).x0 = s.x0 := rfl
@[simp] theorem State.offer_x1 (s : State) (p : PortInput) : (s.offer p).x1 = s.x1 := rfl
@[simp] theorem State.offer_kb (s : State) (p : PortInput) : (s.offer p).kb = s.kb := rfl
@[simp] theorem State.offer_klen (s : State) (p : PortInput) : (s.offer p).klen = s.klen := rfl
@[simp] theorem State.offer_bb (s : State) (p : PortInput) : (s.offer p).bb = s.bb := rfl
@[simp] theorem State.offer_blen (s : State) (p : PortInput) : (s.offer p).blen = s.blen := rfl
@[simp] theorem State.offer_l (s : State) (p : PortInput) : (s.offer p).l = s.l := rfl
@[simp] theorem State.offer_lc (s : State) (p : PortInput) : (s.offer p).lc = s.lc := rfl
@[simp] theorem State.offer_t (s : State) (p : PortInput) : (s.offer p).t = s.t := rfl
@[simp] theorem State.offer_kv (s : State) (p : PortInput) : (s.offer p).kv = s.kv := rfl
@[simp] theorem State.offer_ek (s : State) (p : PortInput) : (s.offer p).ek = s.ek := rfl
@[simp] theorem State.offer_ekl (s : State) (p : PortInput) : (s.offer p).ekl = s.ekl := rfl
@[simp] theorem State.offer_etb (s : State) (p : PortInput) : (s.offer p).etb = s.etb := rfl
@[simp] theorem State.offer_enk (s : State) (p : PortInput) : (s.offer p).enk = s.enk := rfl
@[simp] theorem State.offer_ebo (s : State) (p : PortInput) : (s.offer p).ebo = s.ebo := rfl
@[simp] theorem State.offer_eil (s : State) (p : PortInput) : (s.offer p).eil = s.eil := rfl
@[simp] theorem State.offer_ma (s : State) (p : PortInput) : (s.offer p).ma = s.ma := rfl
@[simp] theorem State.offer_mb (s : State) (p : PortInput) : (s.offer p).mb = s.mb := rfl
@[simp] theorem State.offer_mi (s : State) (p : PortInput) : (s.offer p).mi = s.mi := rfl
@[simp] theorem State.offer_mj (s : State) (p : PortInput) : (s.offer p).mj = s.mj := rfl
@[simp] theorem State.offer_mn (s : State) (p : PortInput) : (s.offer p).mn = s.mn := rfl
@[simp] theorem State.offer_rc (s : State) (p : PortInput) : (s.offer p).rc = s.rc := rfl
@[simp] theorem State.offer_inbox (s : State) (p : PortInput) : (s.offer p).inbox = p :: s.inbox := rfl
@[simp] theorem State.offer_rsp (s : State) (p : PortInput) : (s.offer p).rsp = s.rsp := rfl
@[simp] theorem State.offer_draws (s : State) (p : PortInput) : (s.offer p).draws = s.draws := rfl

end Sys2Proof.Machine
end

