-- ==== Sys2Proof/Laws/Ops.lean ====
section
/-! SUPPORT. For each shared operation, what it can do. -/

namespace Sys2Proof.Machine

/-! ### Errors -/

theorem State.sticky_setSticky (s : State) (e e' : Error) :
    (s.setSticky e).sticky e' = (s.sticky e' || decide (e = e')) := by
  cases e <;> cases e' <;> simp [State.setSticky, State.sticky]

theorem State.sticky_raise (s : State) (e e' : Error) : (s.raise e).sticky e' = (s.sticky e' || decide (e = e')) := by
  have h := s.sticky_setSticky e e'
  cases e' <;> exact h

/-! ### The two byte buffers -/

theorem State.keyMaterial_length (s : State) : s.keyMaterial.length = min s.klen.toNat 255 := by
  simp [State.keyMaterial]

theorem State.blockBytes_length (s : State) : s.blockBytes.length = min s.blen.toNat 8 := by
  simp [State.blockBytes]

theorem State.pushKey_room (s : State) (b : Byte) (h : s.klen.toNat ≤ 254) :
    s.pushKey b = { s with kb := s.kb.setIfInBounds s.klen.toNat b, klen := s.klen + 1 } := by
  simp [State.pushKey, h]

theorem State.pushKey_full (s : State) (b : Byte) (h : s.klen.toNat = 255) : s.pushKey b = { s with klen := 256 } := by
  simp [State.pushKey, h]

theorem State.pushKey_over (s : State) (b : Byte) (h : 256 ≤ s.klen.toNat) : s.pushKey b = s := by
  have h1 : ¬ s.klen.toNat ≤ 254 := by omega
  have h2 : ¬ s.klen.toNat = 255 := by omega
  simp [State.pushKey, h1, h2]

/-- KLEN after a push, as a number. -/
theorem State.pushKey_klen_toNat (s : State) (b : Byte) (h : s.klen.toNat ≤ 256) :
    (s.pushKey b).klen.toNat = min (s.klen.toNat + 1) 256 := by
  rcases Nat.lt_or_ge s.klen.toNat 255 with h1 | h1
  · rw [State.pushKey_room s b (by omega)]; simp; omega
  · rcases Nat.lt_or_ge s.klen.toNat 256 with h2 | h2
    · rw [State.pushKey_full s b (by omega)]; simp; omega
    · rw [State.pushKey_over s b h2]; omega

theorem State.pushBlock_blen_toNat (s : State) (b : Byte) (h : s.blen.toNat < 8) :
    (s.pushBlock b).blen.toNat = s.blen.toNat + 1 := by
  simp [State.pushBlock]; omega

theorem State.blockBytes_pushBlock (s : State) (b : Byte) (h : s.blen.toNat < 8) :
    (s.pushBlock b).blockBytes = s.blockBytes ++ [b] := by
  rw [State.blockBytes, State.pushBlock_blen_toNat s b h, State.pushBlock_bb, List.take_add_one, State.blockBytes]
  simp [Vector.toList_setIfInBounds, h, List.take_set_of_le]

theorem State.blockBytes_clearBlock (s : State) : s.clearBlock.blockBytes = [] := by
  simp [State.blockBytes]

/-! ### The Cipher Instance -/

theorem fillKeyWords_getElem (l : Vector Word 64) (ws : List Word) (j : Nat) (h : j < 64) :
    (fillKeyWords l ws)[j] = ws[j]?.getD l[j] := by
  simp [fillKeyWords]

theorem fillKeyWords_nil (l : Vector Word 64) : fillKeyWords l [] = l := by
  apply Vector.ext
  intro j h
  rw [fillKeyWords_getElem l [] j h]
  simp

/-- The three outcomes of the checks of KEXP. -/
theorem State.keyCheck_cases (s : State) :
    (255 < s.klen.toNat ∧ s.keyCheck = some .keyLen) ∨
    (s.klen.toNat ≤ 255 ∧ ¬ s.cfg.WellFormed ∧ s.keyCheck = some .table) ∨
    (s.klen.toNat ≤ 255 ∧ s.cfg.WellFormed ∧ s.keyCheck = none) := by
  unfold State.keyCheck
  by_cases h : 255 < s.klen.toNat
  · exact .inl ⟨h, if_pos h⟩
  · rw [if_neg h]
    by_cases hw : s.cfg.WellFormed
    · have h2 : ¬ (s.cfg.tableWords.toNat < 2 ∨ ¬ s.cfg.WellFormed) := by
        have := hw; unfold Cfg.WellFormed at this; omega
      exact .inr (.inr ⟨by omega, hw, if_neg h2⟩)
    · exact .inr (.inl ⟨by omega, hw, if_pos (.inr hw)⟩)

/-! ### Block operations -/

theorem State.transformBlock_eq (s : State) (f : List Word → Nat → Block → Block) :
    s.transformBlock f = { s with
      x0 := (f s.t s.cfg.rounds.toNat ⟨s.x0, s.x1⟩).a, x1 := (f s.t s.cfg.rounds.toNat ⟨s.x0, s.x1⟩).b } := rfl

/-! ### Resets -/

theorem State.hardReset_rsp_none (s : State) : s.hardReset.rsp = none := rfl

/-! ### The command port -/

theorem State.takeInput_cons (s : State) (p : PortInput) (rest : List PortInput) (h : s.inbox = p :: rest) :
    s.takeInput = some (p, { s with inbox := rest }) := by
  simp only [State.takeInput, h]

theorem State.takeInput_offer (s : State) (p : PortInput) : (s.offer p).takeInput = some (p, s) := rfl

end Sys2Proof.Machine
end

