-- ==== Sys2Proof/Laws/Exec.lean ====
section
/-! SUPPORT. What `exec` does with each command, as one equation over the shared operations. -/

namespace Sys2Proof.Machine

@[simp] theorem exec_nop (s : State) : exec .nop s = .next (s.answer 0) := rfl
@[simp] theorem exec_rdst (s : State) : exec .rdst s = .next (s.answer s.status) := rfl
@[simp] theorem exec_rdcf (s : State) : exec .rdcf s = .next (s.answer (configWord s.cfg)) := rfl
@[simp] theorem exec_clre (s : State) : exec .clre s = .next (s.clearSticky.answer 0) := rfl
@[simp] theorem exec_srst (s : State) : exec .srst s = .next (s.softReset.answer 0) := rfl
@[simp] theorem exec_kclr (s : State) : exec .kclr s = .next (s.clearKey.answer 0) := rfl
@[simp] theorem exec_kpush (b : Byte) (s : State) : exec (.kpush b) s = .next ((s.pushKey b).answer 0) := rfl
@[simp] theorem exec_bclr (s : State) : exec .bclr s = .next (s.clearBlock.answer 0) := rfl
@[simp] theorem exec_pack (s : State) :
    exec .pack s = .next (((s.writeBlock (packBlock s.blockBytes)).clearBlock).answer 0) := rfl
@[simp] theorem exec_rdb (k : BitVec 3) (s : State) : exec (.rdb k) s = .next (s.answer (byteData (s.blockByte k))) := rfl
@[simp] theorem exec_ldx0 (v : Word) (s : State) : exec (.ldx0 v) s = .next ((s.writeX 0 v).answer 0) := rfl
@[simp] theorem exec_ldx1 (v : Word) (s : State) : exec (.ldx1 v) s = .next ((s.writeX 1 v).answer 0) := rfl
@[simp] theorem exec_rdx0 (s : State) : exec .rdx0 s = .next (s.answer (s.readX 0)) := rfl
@[simp] theorem exec_rdx1 (s : State) : exec .rdx1 s = .next (s.answer (s.readX 1)) := rfl

theorem exec_kexp_error (s : State) (e : Error) (h : s.keyCheck = some e) :
    exec .kexp s = .next (s.endInstance.raise e) := by
  simp only [exec, execKexp, h]

theorem exec_kexp_construct (s : State) (h : s.keyCheck = none) :
    exec .kexp s = .next (s.construct.leaveMixWork.answer (flagData s.construct.ek)) := by
  simp only [exec, execKexp, h]

theorem exec_bpush_room (b : Byte) (s : State) (h : s.blen ≠ 8) :
    exec (.bpush b) s = .next ((s.pushBlock b).answer 0) := by
  simp only [exec, execBpush, h, if_false]

theorem exec_bpush_full (b : Byte) (s : State) (h : s.blen = 8) : exec (.bpush b) s = .next (s.raise .bovf) := by
  simp only [exec, execBpush, h, if_true]

theorem exec_enc_instance (s : State) (h : s.kv = true) :
    exec .enc s = .next ((s.transformBlock encrypt).leaveRoundWork.answer 0) := by
  simp only [exec, execEnc, h, if_true]

theorem exec_enc_none (s : State) (h : s.kv = false) : exec .enc s = .next (s.raise .noKey) := by
  simp [exec, execEnc, h]

theorem exec_dec_instance (s : State) (h : s.kv = true) :
    exec .dec s = .next ((s.transformBlock decrypt).leaveRoundWork.answer 0) := by
  simp only [exec, execDec, h, if_true]

theorem exec_dec_none (s : State) (h : s.kv = false) : exec .dec s = .next (s.raise .noKey) := by
  simp [exec, execDec, h]

/-- Every command completes, from every state. -/
theorem exec_total (i : Instr) (s : State) : ∃ t, exec i s = .next t := by
  cases i with
  | kexp => rcases h : s.keyCheck with _ | e
            · exact ⟨_, exec_kexp_construct s h⟩
            · exact ⟨_, exec_kexp_error s e h⟩
  | bpush b => by_cases h : s.blen = 8
               · exact ⟨_, exec_bpush_full b s h⟩
               · exact ⟨_, exec_bpush_room b s h⟩
  | enc => rcases h : s.kv
           · exact ⟨_, exec_enc_none s h⟩
           · exact ⟨_, exec_enc_instance s h⟩
  | dec => rcases h : s.kv
           · exact ⟨_, exec_dec_none s h⟩
           · exact ⟨_, exec_dec_instance s h⟩
  | _ => exact ⟨_, rfl⟩

end Sys2Proof.Machine
end

