-- ==== Sys2Proof/Laws/HostProcedure.lean ====
section
/-! SUPPORT. Sequences of commands. -/

namespace Sys2Proof.Machine

@[simp] theorem thenRun_next {α β : Type} (a : α) (f : α → Host.Outcome β Fault Refusal) :
    thenRun (.next a) f = f a := rfl

@[simp] theorem issueAll_nil (s : State) : issueAll [] s = .next (s, []) := rfl

theorem issueAll_cons (i : Instr) (is : List Instr) (s s₁ s₂ : State) (rs : List Response)
    (h₁ : exec i s = .next s₁) (h₂ : issueAll is s₁ = .next (s₂, rs)) :
    issueAll (i :: is) s = .next (s₂, s₁.rsp.toList ++ rs) := by
  simp only [issueAll, h₁, h₂, thenRun_next]

/-- Sequences run one after the other. -/
theorem issueAll_append (is js : List Instr) (s s₁ s₂ : State) (rs qs : List Response)
    (h₁ : issueAll is s = .next (s₁, rs)) (h₂ : issueAll js s₁ = .next (s₂, qs)) :
    issueAll (is ++ js) s = .next (s₂, rs ++ qs) := by
  induction is generalizing s rs with
  | nil =>
    simp only [issueAll_nil, Host.Outcome.next.injEq, Prod.mk.injEq] at h₁
    obtain ⟨rfl, rfl⟩ := h₁
    exact h₂
  | cons i is ih =>
    obtain ⟨u, hu⟩ := exec_total i s
    simp only [issueAll, hu, thenRun_next] at h₁
    cases hi : issueAll is u with
    | next p =>
      obtain ⟨v, ps⟩ := p
      simp only [hi, thenRun_next, Host.Outcome.next.injEq, Prod.mk.injEq] at h₁
      obtain ⟨rfl, rfl⟩ := h₁
      rw [List.cons_append, issueAll_cons i _ s u s₂ (ps ++ qs) hu (ih u ps hi), List.append_assoc]
    | fault r => simp [hi, thenRun] at h₁
    | refused r => simp [hi, thenRun] at h₁

theorem issueAll_singleton (i : Instr) (s t : State) (h : exec i s = .next t) :
    issueAll [i] s = .next (t, t.rsp.toList) := by
  simpa using issueAll_cons i [] s t t [] h rfl

/-- A row of RDB commands answers the bytes in order and changes only the response. -/
theorem issueAll_rdb (ks : List (BitVec 3)) (s : State) :
    ∃ t, issueAll (ks.map .rdb) s = .next (t, ks.map fun k => .ok (byteData (s.blockByte k))) ∧ t = { s with rsp := t.rsp } := by
  induction ks generalizing s with
  | nil => exact ⟨s, rfl, rfl⟩
  | cons k ks ih =>
    obtain ⟨t, h₁, h₂⟩ := ih (s.answer (byteData (s.blockByte k)))
    refine ⟨t, issueAll_cons _ _ _ _ _ _ (exec_rdb k s) h₁, ?_⟩
    rw [h₂]
    rfl

end Sys2Proof.Machine
end

