-- ==== Sys2Proof/Laws/PerInstr.lean ====
section
/-! SUPPORT. One family of per-instruction laws: the encoder keeps to the command's row of the opcode map. -/

namespace Sys2Proof.Laws.EncodesItsRow

/-- The word of a command is its row's match under its row's mask (30_encoding.md R66). -/
def Statement (i : Instr) : Prop :=
  encode i &&& i.mnemonic.format.maskBits = i.mnemonic.matchBits

/-- The masks of formats B and I leave exactly the immediate free: the rest of the operand field is zeros. -/
theorem byte_row (op : BitVec 8) (b : Byte) :
    ((op ++ ((0 : BitVec 24) ++ b) : BitVec 40) &&& 0xFFFFFFFF00) = op ++ (0 : BitVec 32) := by
  apply BitVec.eq_of_getLsbD_eq
  intro i hi
  have hb : ∀ n < 40, (0xFFFFFFFF00 : BitVec 40).getLsbD n = decide (8 ≤ n) := by decide
  rw [BitVec.getLsbD_and, hb i hi]
  change ((op ++ ((0 : BitVec 24) ++ b) : BitVec (8 + 32)).getLsbD i && decide (8 ≤ i)) =
    (op ++ (0 : BitVec 32) : BitVec (8 + 32)).getLsbD i
  rw [BitVec.getLsbD_append, BitVec.getLsbD_append, BitVec.getLsbD_append]
  by_cases h8 : i < 8 <;> by_cases h32 : i < 32 <;> simp [h8, h32] <;> omega

theorem index_row (op : BitVec 8) (k : BitVec 3) :
    ((op ++ ((0 : BitVec 29) ++ k) : BitVec 40) &&& 0xFFFFFFFFF8) = op ++ (0 : BitVec 32) := by
  apply BitVec.eq_of_getLsbD_eq
  intro i hi
  have hb : ∀ n < 40, (0xFFFFFFFFF8 : BitVec 40).getLsbD n = decide (3 ≤ n) := by decide
  rw [BitVec.getLsbD_and, hb i hi]
  change ((op ++ ((0 : BitVec 29) ++ k) : BitVec (8 + 32)).getLsbD i && decide (3 ≤ i)) =
    (op ++ (0 : BitVec 32) : BitVec (8 + 32)).getLsbD i
  rw [BitVec.getLsbD_append, BitVec.getLsbD_append, BitVec.getLsbD_append]
  by_cases h3 : i < 3 <;> by_cases h32 : i < 32 <;> simp [h3, h32] <;> omega

theorem word_row (op : BitVec 8) (v : Word) :
    ((op ++ v : BitVec 40) &&& 0xFF00000000) = op ++ (0 : BitVec 32) := by
  apply BitVec.eq_of_getLsbD_eq
  intro i hi
  have hb : ∀ n < 40, (0xFF00000000 : BitVec 40).getLsbD n = decide (32 ≤ n) := by decide
  rw [BitVec.getLsbD_and, hb i hi]
  change ((op ++ v : BitVec (8 + 32)).getLsbD i && decide (32 ≤ i)) = (op ++ (0 : BitVec 32) : BitVec (8 + 32)).getLsbD i
  rw [BitVec.getLsbD_append, BitVec.getLsbD_append]
  by_cases h32 : i < 32 <;> simp [h32]
  omega

/-- The match column is the opcode over an operand field of zeros. -/
theorem opcode_row (m : Mnemonic) : (m.opcode ++ (0 : BitVec 32) : BitVec 40) = m.matchBits := by
  cases m <;> decide

theorem nop : Statement .nop := rfl
theorem rdst : Statement .rdst := rfl
theorem rdcf : Statement .rdcf := rfl
theorem clre : Statement .clre := rfl
theorem srst : Statement .srst := rfl
theorem kclr : Statement .kclr := rfl
theorem kpush (imm8 : Byte) : Statement (.kpush imm8) := (byte_row _ imm8).trans (opcode_row _)
theorem kexp : Statement .kexp := rfl
theorem bclr : Statement .bclr := rfl
theorem bpush (imm8 : Byte) : Statement (.bpush imm8) := (byte_row _ imm8).trans (opcode_row _)
theorem pack : Statement .pack := rfl
theorem rdb (k : BitVec 3) : Statement (.rdb k) := (index_row _ k).trans (opcode_row _)
theorem ldx0 (imm32 : Word) : Statement (.ldx0 imm32) := (word_row _ imm32).trans (opcode_row _)
theorem ldx1 (imm32 : Word) : Statement (.ldx1 imm32) := (word_row _ imm32).trans (opcode_row _)
theorem rdx0 : Statement .rdx0 := rfl
theorem rdx1 : Statement .rdx1 := rfl
theorem enc : Statement .enc := rfl
theorem dec : Statement .dec := rfl

end Sys2Proof.Laws.EncodesItsRow
end

