-- ==== Sys2Proof/Laws/RoundFunction.lean ====
section
/-! SUPPORT. The round function's equations in the library's arithmetic. -/

namespace Sys2Proof.Machine

theorem hrf_eq (u v k : Word) : hrf u v k = rotl (u ^^^ v) (v.toNat % 32) + k := by
  rw [hrf, rotAmount_eq]; rfl

theorem hri_eq (u v k : Word) : hri u v k = rotr (u - k) (v.toNat % 32) ^^^ v := by
  rw [hri, rotAmount_eq]; rfl

theorem encRound_a (t : List Word) (r : Nat) (x : Block) : (encRound t r x).a = hrf x.a x.b (entry t (2 * r)) := rfl

theorem encRound_b (t : List Word) (r : Nat) (x : Block) :
    (encRound t r x).b = hrf x.b (encRound t r x).a (entry t (2 * r + 1)) := rfl

theorem decRound_b (t : List Word) (r : Nat) (x : Block) : (decRound t r x).b = hri x.b x.a (entry t (2 * r + 1)) := rfl

theorem decRound_a (t : List Word) (r : Nat) (x : Block) :
    (decRound t r x).a = hri x.a (decRound t r x).b (entry t (2 * r)) := rfl

@[simp] theorem encRounds_zero (t : List Word) (x : Block) : encRounds t 0 x = x := rfl

theorem encRounds_succ (t : List Word) (r : Nat) (x : Block) :
    encRounds t (r + 1) x = encRound t (r + 1) (encRounds t r x) := rfl

@[simp] theorem decRounds_zero (t : List Word) (x : Block) : decRounds t 0 x = x := rfl

theorem decRounds_succ (t : List Word) (r : Nat) (x : Block) :
    decRounds t (r + 1) x = decRounds t r (decRound t (r + 1) x) := rfl

end Sys2Proof.Machine
end

