-- ==== Sys2Proof/Laws/Step.lean ====
section
/-! SUPPORT. The four things a step can do. -/

namespace Sys2Proof.Machine

/-- Inversion of a step: it idles, takes `rst`, runs a command, or answers an illegal word. -/
theorem step_cases (s t : State) (h : step s = .next t) :
    (s.inbox = [] ∧ t = s) ∨
    (∃ rest, s.inbox = .rst :: rest ∧ t = State.hardReset { s with inbox := rest }) ∨
    (∃ w rest i, s.inbox = .command w :: rest ∧ decode w = .instr i ∧ exec i { s with inbox := rest } = .next t) ∨
    (∃ w rest why, s.inbox = .command w :: rest ∧ decode w = .illegal why ∧
      t = State.raise { s with inbox := rest } .illegal) := by
  unfold step at h
  cases hi : s.inbox with
  | nil => simp only [State.takeInput, hi, Host.Outcome.next.injEq] at h; exact .inl ⟨rfl, h.symm⟩
  | cons p rest =>
    rw [State.takeInput_cons s p rest hi] at h
    cases p with
    | rst =>
      simp only [Host.Outcome.next.injEq] at h
      exact .inr (.inl ⟨rest, rfl, h.symm⟩)
    | command w =>
      cases hd : decode w with
      | instr i => simp only [hd] at h; exact .inr (.inr (.inl ⟨w, rest, i, rfl, hd, h⟩))
      | illegal why =>
        simp only [hd, Host.Outcome.next.injEq] at h
        exact .inr (.inr (.inr ⟨w, rest, why, rfl, hd, h.symm⟩))

end Sys2Proof.Machine
end

