-- ==== Sys2Proof/Tests/Slice0.lean ====
section
/-! SUPPORT. The model's own tests: expected values from the rules' worked examples and from 95_test_vectors.md, and for
each obligation with hypotheses a witness that meets them. -/

namespace Sys2Proof.Machine.Tests

-- One theorem after another: the kernel evaluations below, all at once, would take a thread with its stack each.
set_option Elab.async false

/-! ### Helpers -/

/-- The outcome is a next state with this property. -/
def nextIs (o : Host.Outcome State Fault Refusal) (p : State → Bool) : Bool :=
  match o with
  | .next t => p t
  | _ => false

/-- The response of one command, issued in a state. -/
def response (i : Instr) (s : State) : Option Response :=
  match exec i s with
  | .next t => t.rsp
  | _ => none

/-- The response to one command word offered right after reset. -/
def firstResponse (w : Command) : Option Response :=
  match step (State.reset.offer (.command w)) with
  | .next t => t.rsp
  | _ => none

/-- Key K1 of 95_test_vectors.md: bytes 00 to 0F. -/
def keyK1 : List Byte := [0x00, 0x01, 0x02, 0x03, 0x04, 0x05, 0x06, 0x07, 0x08, 0x09, 0x0A, 0x0B, 0x0C, 0x0D, 0x0E, 0x0F]

/-- Key K2 of 95_test_vectors.md. -/
def keyK2 : List Byte := [0x2B, 0xD6, 0x45, 0x9F, 0x82, 0xC5, 0xB3, 0x00, 0x95, 0x2C, 0x49, 0x10, 0x48, 0x81, 0xFF, 0x48]

/-- Reset, then K1 in the key buffer. -/
def keyed : State := { State.reset with kb := Vector.ofFn fun i => BitVec.ofNat 8 i, klen := 16 }

/-- Reset, then the instance of K1 and block B1. -/
def constructed : State := { State.reset with t := expand keyK1 26, kv := true, x0 := 0x33221100, x1 := 0x77665544 }

/-- Reset with eight bytes 11 22 .. 88 in the block buffer (95 section 7.3). -/
def buffered : State := { State.reset with bb := #v[0x11, 0x22, 0x33, 0x44, 0x55, 0x66, 0x77, 0x88], blen := 8 }

/-- The ill-formed configuration of 95 section 7.5. -/
def illFormed : Cfg := { rounds := 12, tableWords := 24 }

/-! ### WellFormed: one ill-formed term for each check -/

theorem test_default_cfg_well_formed : Cfg.default.WellFormed := by decide
theorem test_cfg_table_size_refused : ¬ illFormed.WellFormed := by decide
theorem test_cfg_zero_table_refused : ¬ (Cfg.WellFormed { rounds := 0, tableWords := 0 }) := by decide
theorem test_line_unasked_operand_refused : ¬ (AsmLine.WellFormed { mnemonic := .kexp, operand := some 0 }) := by decide
theorem test_line_missing_operand_refused : ¬ (AsmLine.WellFormed { mnemonic := .kpush, operand := none }) := by decide
theorem test_line_byte_range : ¬ (AsmLine.WellFormed { mnemonic := .bpush, operand := some 256 }) ∧
    AsmLine.WellFormed { mnemonic := .bpush, operand := some 255 } := by decide
theorem test_line_index_range : ¬ (AsmLine.WellFormed { mnemonic := .rdb, operand := some 8 }) ∧
    AsmLine.WellFormed { mnemonic := .rdb, operand := some 7 } := by decide
theorem test_line_word_range : ¬ (AsmLine.WellFormed { mnemonic := .ldx0, operand := some 0x100000000 }) ∧
    AsmLine.WellFormed { mnemonic := .ldx1, operand := some 0xFFFFFFFF } := by decide

/-! ### Decoding: the opcode (8 bits) and operand field (32 bits) of each word written out from R66 -/

theorem test_decode_nop : decode 0b00000000_00000000000000000000000000000000 = .instr .nop := by decide
theorem test_decode_rdst : decode 0b00000001_00000000000000000000000000000000 = .instr .rdst := by decide
theorem test_decode_rdcf : decode 0b00000010_00000000000000000000000000000000 = .instr .rdcf := by decide
theorem test_decode_clre : decode 0b00000011_00000000000000000000000000000000 = .instr .clre := by decide
theorem test_decode_srst : decode 0b00000100_00000000000000000000000000000000 = .instr .srst := by decide
theorem test_decode_kclr : decode 0b00010000_00000000000000000000000000000000 = .instr .kclr := by decide
theorem test_decode_kpush : decode 0b00010001_00000000000000000000000000101011 = .instr (.kpush 0x2B) := by decide
theorem test_decode_kexp : decode 0b00010010_00000000000000000000000000000000 = .instr .kexp := by decide
theorem test_decode_bclr : decode 0b00100000_00000000000000000000000000000000 = .instr .bclr := by decide
theorem test_decode_bpush : decode 0b00100001_00000000000000000000000011101010 = .instr (.bpush 0xEA) := by decide
theorem test_decode_pack : decode 0b00100010_00000000000000000000000000000000 = .instr .pack := by decide
theorem test_decode_rdb : decode 0b00100011_00000000000000000000000000000011 = .instr (.rdb 3) := by decide
theorem test_decode_ldx0 : decode 0b00100100_00110011001000100001000100000000 = .instr (.ldx0 0x33221100) := by decide
theorem test_decode_ldx1 : decode 0b00100101_01110111011001100101010101000100 = .instr (.ldx1 0x77665544) := by decide
theorem test_decode_rdx0 : decode 0b00100110_00000000000000000000000000000000 = .instr .rdx0 := by decide
theorem test_decode_rdx1 : decode 0b00100111_00000000000000000000000000000000 = .instr .rdx1 := by decide
theorem test_decode_enc : decode 0b00110000_00000000000000000000000000000000 = .instr .enc := by decide
theorem test_decode_dec : decode 0b00110001_00000000000000000000000000000000 = .instr .dec := by decide

/-- The words of 95 section 7.4. -/
theorem test_illegal_words : ([0x0000000001, 0x0100000100, 0x0300000001, 0x0480000000, 0x0500000000,
    0x0F00000000, 0x1100000100, 0x11FFFFFFFF, 0x1200000001, 0x1300000000, 0x2100000100, 0x2300000008, 0x2800000000, 0x2F12345678,
    0x3000000001, 0x3200000000, 0x8000000000, 0xFF00000000, 0xFFFFFFFFFF] : List Command).all
    (fun w => (decode w).instr? == none) = true := by decide +kernel

/-- The table numbering is that of one 40-bit word. -/
theorem test_table_word : decodeTableWord 40 0x2577665544 = some (.ldx1 0x77665544) ∧
    decodeTableWord 40 0x0500000000 = none := by decide

/-! ### The text forms (R70, R72) -/

theorem test_assemble_hex : assembleText ['K', 'P', 'U', 'S', 'H', ' ', '0', 'x', '2', 'B'] = some (.kpush 0x2B) := by decide
theorem test_assemble_decimal_comment :
    assembleText ['B', 'P', 'U', 'S', 'H', ' ', '1', '7', ' ', ';', ' ', 'x'] = some (.bpush 17) := by decide
theorem test_assemble_no_operand : assembleText ['K', 'E', 'X', 'P'] = some .kexp := by decide
theorem test_assemble_out_of_range : assembleText ['R', 'D', 'B', ' ', '8'] = none := by decide
theorem test_command_spelling :
    commandText (encode (.ldx0 0x33221100)) = ['2', '4', '3', '3', '2', '2', '1', '1', '0', '0'] := by decide
theorem test_response_spelling : responseText (.ok 0x9B14DC2D) = ['0', '9', 'B', '1', '4', 'D', 'C', '2', 'D'] ∧
    responseText (.error .noKey) = ['3', '0', '0', '0', '0', '0', '0', '0', '0'] := by decide

/-! ### Word operations (95 section 2) -/

theorem test_add_sub : add32 0xB7E15163 0x9E3779B9 = 0x5618CB1C ∧ sub32 0 1 = 0xFFFFFFFF := by decide
theorem test_rotl : rotl 0x80000001 0 = 0x80000001 ∧ rotl 0x80000001 31 = 0xC0000000 ∧ rotl 0x12345678 8 = 0x34567812 := by
  decide
theorem test_rotr : rotr 0x80000001 0 = 0x80000001 ∧ rotr 0x80000001 1 = 0xC0000000 ∧ rotr 0x12345678 8 = 0x78123456 := by
  decide
theorem test_rot_amount : rotAmount 0x00000020 = 0 ∧ rotAmount 0xBF0A8B1D = 29 := by decide
theorem test_bswap : bswap 0x00123456 = 0x56341200 := by decide

/-! ### Converter (95 section 1.3 and 3.1) -/

theorem test_b2w_full : b2w [0x12, 0x34, 0x56, 0x78] = [0x78563412] := by decide
theorem test_b2w_partial : b2w [0x12, 0x34, 0x56] = [0x56341200] := by decide
theorem test_b2w_nine : b2w [1, 2, 3, 4, 5, 6, 7, 8, 9] = [0x04030201, 0x08070605, 0x09000000] := by decide
theorem test_w2b : w2b [0x12345678] = [0x78, 0x56, 0x34, 0x12] := by decide

/-! ### Key schedule and round function (95 sections 1.1, 1.2, 4.4, 5.5; R144) -/

theorem test_table_K1 : (expand keyK1 26).head? = some 0xD447E233 ∧ (expand keyK1 26).getLast? = some 0x15E8E206 := by
  decide +kernel
theorem test_table_empty_key : (expand [] 26).head? = some 0x658171E4 ∧ (expand [] 26).getLast? = some 0xEBFF377B := by
  decide +kernel
theorem test_table_one_round : expand keyK1 4 = [0x1AA6FA2E, 0x8D70A334, 0x0699E321, 0xF286C310] := by decide +kernel
theorem test_key_words_K1 : (keySchedule keyK1 26).l = [0x28E42AD8, 0x2C4D1306, 0xC6ABCB38, 0xA02F47EB] := by decide +kernel
theorem test_known_answer_1 : encrypt (expand keyK1 26) 12 ⟨0x33221100, 0x77665544⟩ = ⟨0x9B14DC2D, 0x9E8B08CF⟩ := by
  decide +kernel
theorem test_known_answer_2 : encrypt (expand keyK2 26) 12 (packBlock [0xEA, 0x02, 0x47, 0x14, 0xAD, 0x5C, 0x4D, 0x84]) =
    packBlock [0x11, 0xE4, 0x3B, 0x86, 0xD2, 0x31, 0xEA, 0x64] := by decide +kernel
theorem test_known_answer_2_back :
    decrypt (expand keyK2 26) 12 (packBlock [0x11, 0xE4, 0x3B, 0x86, 0xD2, 0x31, 0xEA, 0x64]) =
      packBlock [0xEA, 0x02, 0x47, 0x14, 0xAD, 0x5C, 0x4D, 0x84] := by decide +kernel
theorem test_half_rounds : hrf 0x0769F333 0x4F954164 0x84FCE219 = 0x14C8078D ∧
    hri 0x62107F49 0x14C8078D 0xB93353DE = 0x4F954164 := by decide

/-! ### Commands, one step each -/

/-- 95 section 7.1: the first command after reset. -/
theorem test_first_commands : [0x0100000000, 0x0200000000, 0x2600000000, 0x2700000000, 0x2300000007, 0x0000000000,
      0x3000000000, 0x3100000000].map firstResponse =
    [some (.ok 0), some (.ok 0x001A0C20), some (.ok 0), some (.ok 0), some (.ok 0), some (.ok 0), some (.error .noKey),
      some (.error .noKey)] := by decide +kernel
/-- 95 section 7.4. -/
theorem test_first_illegal : nextIs (step (State.reset.withFetchWord 40 0x3000000001)) (fun t =>
    t.rsp == some (.error .illegal) && t.eil && !t.enk && t.inbox == []) = true := by decide +kernel
/-- 95 section 7.6, row 8: a status with several fields set. -/
theorem test_rdst : response .rdst
    { State.reset with kv := true, ek := true, enk := true, eil := true, klen := 1, blen := 1 } = some (.ok 0x02011403) := by
  decide +kernel
/-- 95 section 7.5. -/
theorem test_rdcf : response .rdcf (State.resetWith illFormed) = some (.ok 0x00180C20) := by decide +kernel
/-- 95 section 7.6, row 9: KV and EK stay. -/
theorem test_clre : nextIs (exec .clre { State.reset with kv := true, ek := true, enk := true, eil := true })
    (fun t => t.kv && t.ek && !t.enk && !t.eil) = true := by decide +kernel
/-- 95 section 7.6, row 13. -/
theorem test_srst : nextIs (exec .srst { constructed with blen := 3, ebo := true })
    (fun t => t.x0 == 0 && t.blen == 0 && !t.kv && !t.ebo && t.t == constructed.t) = true := by decide +kernel
/-- R120: the instance stays. -/
theorem test_kclr : nextIs (exec .kclr { constructed with klen := 256 }) (fun t => t.klen == 0 && t.kv) = true := by
  decide +kernel
/-- R121: the 255th byte is stored. -/
theorem test_kpush_last : nextIs (exec (.kpush 0xF5) { State.reset with klen := 254 })
    (fun t => t.klen == 255 && t.kb.toList.getLast? == some 0xF5) = true := by decide +kernel
/-- R121: the 256th is counted and dropped, the 257th changes nothing. -/
theorem test_kpush_over : nextIs (exec (.kpush 0xFC) { State.reset with klen := 255 })
      (fun t => t.klen == 256 && t.kb.toList.getLast? == some 0) = true ∧
    nextIs (exec (.kpush 0xFC) { State.reset with klen := 256 }) (fun t => t.klen == 256) = true := by decide +kernel
/-- 95 section 4.2. -/
theorem test_kexp : nextIs (exec .kexp keyed) (fun t => t.kv && !t.ek && t.lc == 4 && t.rsp == some (.ok 0) &&
    t.t == expand keyK1 26 && t.l[3] == 0xA02F47EB && t.l[4] == 0) = true := by decide +kernel
/-- 95 section 7.2 step 8 and section 7.5. -/
theorem test_kexp_errors : nextIs (exec .kexp { constructed with klen := 256 })
      (fun t => t.rsp == some (.error .keyLen) && t.ekl && !t.kv && t.t == constructed.t) = true ∧
    response .kexp (State.resetWith illFormed) = some (.error .table) ∧
    response .kexp { State.resetWith illFormed with klen := 256 } = some (.error .keyLen) := by decide +kernel
/-- R106. -/
theorem test_bclr : nextIs (exec .bclr buffered) (fun t => t.blen == 0 && t.bb == buffered.bb) = true := by decide +kernel
/-- 95 section 7.3, rows 9 and 11. -/
theorem test_bpush : nextIs (exec (.bpush 0x99) { buffered with blen := 7 })
      (fun t => t.blen == 8 && t.bb[7] == 0x99 && t.bb[6] == 0x77) = true ∧
    nextIs (exec (.bpush 0x99) buffered) (fun t => t.rsp == some (.error .bovf) && t.ebo && t.bb == buffered.bb) = true := by
  decide +kernel
/-- 95 section 7.3, row 13. -/
theorem test_pack_full : nextIs (exec .pack buffered) (fun t => t.x0 == 0x44332211 && t.x1 == 0x88776655 && t.blen == 0) =
    true := by decide +kernel
/-- R108: 5 bytes; and an empty buffer. -/
theorem test_pack_partial : nextIs (exec .pack { buffered with blen := 5 })
      (fun t => t.x0 == 0x44332211 && t.x1 == 0x55000000) = true ∧
    nextIs (exec .pack { constructed with blen := 0 }) (fun t => t.x0 == 0 && t.x1 == 0) = true := by decide +kernel
/-- R109. -/
theorem test_rdb : ([0, 1, 2, 3, 4, 5, 6, 7].map fun k =>
      response (.rdb k) { State.reset with x0 := 0x9B14DC2D, x1 := 0x9E8B08CF }) =
    [0x2D, 0xDC, 0x14, 0x9B, 0xCF, 0x08, 0x8B, 0x9E].map fun d => some (.ok d) := by decide +kernel
theorem test_ldx0 : nextIs (exec (.ldx0 0x01020304) constructed) (fun t => t.x0 == 0x01020304 && t.x1 == 0x77665544) = true := by
  decide +kernel
theorem test_ldx1 : nextIs (exec (.ldx1 0x01020304) constructed) (fun t => t.x0 == 0x33221100 && t.x1 == 0x01020304) = true := by
  decide +kernel
theorem test_rdx : response .rdx0 constructed = some (.ok 0x33221100) ∧ response .rdx1 constructed = some (.ok 0x77665544) := by
  decide +kernel
/-- R142, R145: known-answer vector 1 in both directions. -/
theorem test_enc : nextIs (exec .enc constructed)
    (fun t => t.x0 == 0x9B14DC2D && t.x1 == 0x9E8B08CF && t.rsp == some (.ok 0)) = true := by decide +kernel
theorem test_dec : nextIs (exec .dec { constructed with x0 := 0x9B14DC2D, x1 := 0x9E8B08CF })
    (fun t => t.x0 == 0x33221100 && t.x1 == 0x77665544 && t.rsp == some (.ok 0)) = true := by decide +kernel
/-- 95 section 7.8, R131: `rst` keeps the configuration and the words of `T`, and ends the instance. -/
theorem test_rst : nextIs (step (constructed.offer .rst))
    (fun t => t.status == 0 && t.x0 == 0 && !t.kv && t.cfg == constructed.cfg && t.t == constructed.t) = true := by decide +kernel

/-! ### Witnesses: the hypotheses of each obligation are met -/

theorem witness_EncodeInvertsDecode : decode 0x2300000007 = .instr (.rdb 7) := by decide
theorem witness_IllegalWords_unassigned : (State.reset.offer (.command ((0x05 : BitVec 8) ++ (0 : Word)))).inbox =
    .command ((0x05 : BitVec 8) ++ (0 : Word)) :: [] := rfl
theorem witness_IllegalWords_formats :
    (State.reset.offer (.command ((0x04 : BitVec 8) ++ (0x80000000 : Word)))).inbox =
      .command ((0x04 : BitVec 8) ++ (0x80000000 : Word)) :: [] ∧
    (State.reset.offer (.command ((0x11 : BitVec 8) ++ (0x100 : Word)))).inbox =
      .command ((0x11 : BitVec 8) ++ (0x100 : Word)) :: [] ∧
    (0x100 : Word).extractLsb' 8 24 ≠ (0 : BitVec 24) ∧
    (State.reset.offer (.command ((0x23 : BitVec 8) ++ (8 : Word)))).inbox = .command ((0x23 : BitVec 8) ++ (8 : Word)) :: [] ∧
    (8 : Word).extractLsb' 3 29 ≠ (0 : BitVec 29) := ⟨rfl, rfl, by decide, rfl, by decide⟩
theorem witness_IllegalWords_legal :
    (State.reset.offer (.command ((0x23 : BitVec 8) ++ (7 : Word)))).inbox = .command ((0x23 : BitVec 8) ++ (7 : Word)) :: [] ∧
    (7 : Word).extractLsb' 3 29 = (0 : BitVec 29) ∧
    (State.reset.offer (.command ((0x11 : BitVec 8) ++ (0xFF : Word)))).inbox =
      .command ((0x11 : BitVec 8) ++ (0xFF : Word)) :: [] ∧
    (0xFF : Word).extractLsb' 8 24 = (0 : BitVec 24) := ⟨rfl, by decide, rfl, by decide⟩
theorem witness_StepRunsTheDecodedCommand :
    (constructed.offer (.command 0x3000000000)).inbox = .command 0x3000000000 :: [] ∧ decode 0x3000000000 = .instr .enc :=
  ⟨rfl, by decide⟩
theorem witness_EveryAcceptedCommandIsAnswered :
    (State.reset.offer (.command 0xFFFFFFFFFF)).inbox = .command 0xFFFFFFFFFF :: [] := rfl
theorem witness_CoreIdlesWithoutInput : constructed.inbox = [] := rfl
theorem witness_ResetsClearScalarsAndBlock : ∃ t u,
    (constructed.offer .rst).inbox = .rst :: [] ∧ step (constructed.offer .rst) = .next t ∧ exec .srst constructed = .next u :=
  ⟨_, _, rfl, rfl, rfl⟩
theorem witness_ResetInputCompletes : (constructed.offer .rst).inbox = .rst :: [] := rfl
theorem witness_RdcfReturnsTheConstantConfiguration : ∃ t, step (constructed.offer .rst) = .next t := ⟨_, rfl⟩
theorem witness_KpushStoresCountsOrDrops : State.klen { State.reset with klen := 254 } = 254 ∧ (254 : BitVec 9).toNat ≤ 254 ∧
    State.klen { State.reset with klen := 255 } = 255 ∧ (255 : BitVec 9).toNat = 255 ∧
    State.klen { State.reset with klen := 256 } = 256 ∧ (256 : BitVec 9).toNat = 256 := by decide +kernel
theorem witness_KpushAppendsToKeyMaterial :
    (∃ t, exec (.kpush 1) { State.reset with klen := 254 } = .next t) ∧
      ∃ t, exec (.kpush 1) { State.reset with klen := 255 } = .next t := ⟨⟨_, rfl⟩, ⟨_, rfl⟩⟩
theorem witness_KexpValidatesThenExpands :
    255 < (State.klen { keyed with klen := 256 }).toNat ∧
    ¬ 255 < (State.klen { keyed with klen := 255 }).toNat ∧ Cfg.default.tableWords.toNat = 2 * (Cfg.default.rounds.toNat + 1) ∧
    illFormed.tableWords.toNat ≠ 2 * (illFormed.rounds.toNat + 1) ∧
    (Cfg.tableWords { rounds := 0, tableWords := 1 }).toNat < 2 := by decide +kernel
theorem witness_SeedIsPPlusMultiplesOfQ : 25 < 26 := by decide
theorem witness_ExpandIsTheInterleavedMix : 0 < 26 ∧ 77 < 3 * max 26 (b2w keyK1).length ∧ 0 < (b2w keyK1).length ∧
    (b2w ([] : List Byte)).length = 0 := by decide +kernel
theorem witness_MixIndicesAndFinalWords : 0 < 26 ∧ 0 < (b2w keyK1).length := by decide +kernel
theorem witness_EmptyKeySucceedsWithAdvisory : State.reset.klen = 0 ∧ State.reset.cfg.WellFormed := by decide +kernel
/-- Two states that hold the same key, one with an older instance. -/
theorem witness_TableDependsOnKeyAndConfigurationOnly :
    keyed.cfg = (State.cfg { keyed with t := constructed.t, kv := true }) ∧
    keyed.keyMaterial = State.keyMaterial { keyed with t := constructed.t, kv := true } ∧
    (∃ t, exec .kexp keyed = .next t) ∧ ∃ t, exec .kexp { keyed with t := constructed.t, kv := true } = .next t := by
  refine ⟨rfl, by decide +kernel, ?_, ?_⟩ <;>
  · unfold exec execKexp
    split <;> exact ⟨_, rfl⟩
/-- Each change that the statement speaks of happens. -/
theorem witness_OnlyKexpMakesOrChangesAnInstance :
    nextIs (exec .kexp keyed) (fun t => t.t != keyed.t && !keyed.kv && t.kv) = true ∧
    nextIs (exec .srst constructed) (fun t => constructed.kv && !t.kv) = true ∧
    nextIs (exec .kexp { constructed with klen := 256 }) (fun t => !t.kv) = true ∧
    nextIs (exec .kexp { constructed with cfg := illFormed }) (fun t => !t.kv) = true ∧
    nextIs (step (keyed.offer (.command 0x1200000000))) (fun t => t.t != keyed.t) = true ∧
    (constructed.offer .rst).inbox = .rst :: [] := by decide +kernel
theorem witness_SetkeyConstructsTheInstance : ¬ 255 < (List.replicate 255 (0 : Byte)).length ∧
    255 < (List.replicate 256 (0 : Byte)).length ∧ ¬ (State.resetWith illFormed).cfg.WellFormed ∧
    State.reset.cfg.WellFormed := by decide +kernel
theorem witness_BytesToWordsByFormula : 1 < (b2w [0x12, 0x34, 0x56, 0x78, 0x9A]).length := by decide
theorem witness_WordsToBytesByFormula : 0 < [(0x12345678 : Word)].length ∧ 3 < 4 := by decide
theorem witness_ConversionRoundTrips : [(1 : Byte), 2, 3, 4].length % 4 = 0 ∧ [(5 : Byte), 6, 7].length < 4 := by decide
theorem witness_BpushStoresOrOverflows : (State.blen { buffered with blen := 7 }).toNat < 8 ∧ buffered.blen.toNat = 8 := by
  decide +kernel
theorem witness_WordAndByteViewsAgree : ([0, 0x11, 0x22, 0x33, 0x44, 0x55, 0x66, 0x77] : List Byte).length ≤ 8 := by decide
theorem witness_RotationsMoveBitsAround : 31 ≤ 31 ∧ 0 ≤ 31 := by decide
theorem witness_EncRunsTheRounds : State.reset.kv = false ∧ constructed.kv = true ∧ 25 < constructed.t.length ∧
    12 ≤ constructed.cfg.rounds.toNat := by decide +kernel
theorem witness_DecRunsTheRoundsBackwards : State.reset.kv = false ∧ constructed.kv = true := ⟨rfl, rfl⟩
theorem witness_DecryptAndEncryptAreInverse : constructed.kv = true := rfl
theorem witness_SingleBlockOperations : constructed.kv = true := rfl
theorem witness_ErrorsAreRaisedAndTakenAsStated :
    response .kexp { State.reset with klen := 256 } = some (.error .keyLen) ∧
    response .kexp (State.resetWith illFormed) = some (.error .table) ∧
    response .enc State.reset = some (.error .noKey) ∧ response .dec State.reset = some (.error .noKey) ∧
    response (.bpush 0) buffered = some (.error .bovf) ∧ response .kexp keyed = some (.ok 0) := by decide +kernel
theorem witness_StickyBitsAreClearedOnlyByClreAndSrst : State.sticky { State.reset with ebo := true } .bovf = true ∧
    nextIs (exec .clre { State.reset with ebo := true }) (fun t => !t.sticky .bovf) = true ∧
    nextIs (exec .srst { State.reset with ebo := true }) (fun t => !t.sticky .bovf) = true := by decide +kernel
theorem witness_StickyBitsChangeNoBehaviour : Instr.enc ≠ .rdst ∧ ∃ t, exec .enc State.reset = .next t := ⟨by decide, _, rfl⟩
theorem witness_ReadingHasNoSideEffect : ∃ t, exec (.rdb 7) constructed = .next t := ⟨_, rfl⟩
/-- The state after reset meets the invariant, and the core steps from it. -/
theorem witness_InvariantKeptByEveryStep : (State.reset.offer (.command 0x11000000FF)).Inv ∧
    ∃ t, step (State.reset.offer (.command 0x11000000FF)) = .next t := by
  refine ⟨⟨by decide +kernel, by decide +kernel, by decide +kernel, by decide +kernel, by decide +kernel, ?_⟩, _, rfl⟩
  intro h
  exact absurd h (by decide +kernel)
/-- Two states that differ in hidden contents only. -/
theorem witness_UnspecifiedContentsAreInvisible :
    SameVisible State.reset
      { State.reset with kb := Vector.replicate 255 1, t := [7], l := Vector.replicate 64 2, ma := 3, draws := 4 } ∧
    ∃ t, step State.reset = .next t := by
  refine ⟨⟨rfl, rfl, rfl, rfl, rfl, rfl, rfl, rfl, ?_, rfl, rfl, rfl, rfl, rfl, rfl, rfl, rfl⟩, _, rfl⟩
  intro h
  exact absurd h (by decide +kernel)
theorem witness_EcbTransformsEachBlock : constructed.kv = true ∧ 1 < ((List.replicate 11 (0 : Byte)).length + 7) / 8 :=
  ⟨rfl, by decide⟩
theorem witness_EcbRoundTrip : constructed.kv = true ∧ (List.replicate 16 (0 : Byte)).length % 8 = 0 := ⟨rfl, by decide⟩
theorem witness_NamedExactlyWhenMaskedBitsMatch :
    (Mnemonic.nop, (0x0000000000 : Command), (0xFFFFFFFFFF : Command)) ∈ [(Mnemonic.nop, (0x0000000000 : Command),
      (0xFFFFFFFFFF : Command))] := List.mem_singleton.2 rfl
theorem witness_AssemblerAcceptsExactlyInRangeOperands :
    assembleLine { mnemonic := .rdb, operand := some 7 } = some (.rdb 7) := by decide

end Sys2Proof.Machine.Tests
end

section
/-! PROOFS. What one step does at the command port (00_scope.md R9, 10_state.md R10): an empty port, a legal word, an
illegal word, and that every command word is answered. -/

namespace Sys2Proof.Machine

/-! ### The step function, one equation per case of a port without `rst` -/

theorem State.takeInput_nil (s : State) (h : s.inbox = []) : s.takeInput = none := by
  simp only [State.takeInput, h]

theorem step_idle (s : State) (h : s.inbox = []) : step s = .next s := by
  simp only [step, State.takeInput_nil s h]

theorem step_legal (s : State) (rest : List PortInput) (w : Command) (i : Instr)
    (h : s.inbox = .command w :: rest) (hd : decode w = .instr i) : step s = exec i { s with inbox := rest } := by
  simp only [step, State.takeInput_cons s _ rest h, hd]

theorem step_illegal (s : State) (rest : List PortInput) (w : Command) (why : IllegalWord)
    (h : s.inbox = .command w :: rest) (hd : decode w = .illegal why) :
    step s = .next (State.raise { s with inbox := rest } .illegal) := by
  simp only [step, State.takeInput_cons s _ rest h, hd]

/-! ### Every command ends with its response -/

/-- A command's last act is a success response or a raised error (30_encoding.md R61, 60_exceptions.md R186); what it
does before leaves the port's later inputs alone. -/
theorem exec_ends_with_answer_or_raise (i : Instr) (s : State) :
    ∃ u : State, ((∃ d, exec i s = .next (u.answer d)) ∨ ∃ e, exec i s = .next (u.raise e)) ∧ u.inbox = s.inbox := by
  cases i with
  | kpush b => exact ⟨s.pushKey b, .inl ⟨0, exec_kpush b s⟩, s.pushKey_inbox b⟩
  | kexp =>
    rcases h : s.keyCheck with _ | e
    · exact ⟨_, .inl ⟨_, exec_kexp_construct s h⟩, by simp⟩
    · exact ⟨_, .inr ⟨e, exec_kexp_error s e h⟩, by simp⟩
  | bpush b =>
    by_cases h : s.blen = 8
    · exact ⟨s, .inr ⟨_, exec_bpush_full b s h⟩, rfl⟩
    · exact ⟨_, .inl ⟨_, exec_bpush_room b s h⟩, by simp⟩
  | ldx0 v => exact ⟨s.writeX 0 v, .inl ⟨0, exec_ldx0 v s⟩, s.writeX_inbox 0 v⟩
  | ldx1 v => exact ⟨s.writeX 1 v, .inl ⟨0, exec_ldx1 v s⟩, s.writeX_inbox 1 v⟩
  | enc =>
    rcases h : s.kv
    · exact ⟨s, .inr ⟨_, exec_enc_none s h⟩, rfl⟩
    · exact ⟨_, .inl ⟨_, exec_enc_instance s h⟩, by simp⟩
  | dec =>
    rcases h : s.kv
    · exact ⟨s, .inr ⟨_, exec_dec_none s h⟩, rfl⟩
    · exact ⟨_, .inl ⟨_, exec_dec_instance s h⟩, by simp⟩
  | _ => exact ⟨_, .inl ⟨_, rfl⟩, rfl⟩

theorem exec_answers_and_keeps_inbox (i : Instr) (s : State) :
    ∃ t r, exec i s = .next t ∧ t.rsp = some r ∧ t.inbox = s.inbox := by
  obtain ⟨u, ⟨d, hu⟩ | ⟨e, hu⟩, hin⟩ := exec_ends_with_answer_or_raise i s
  · exact ⟨u.answer d, .ok d, hu, u.answer_rsp d, (u.answer_inbox d).trans hin⟩
  · exact ⟨u.raise e, .error e, hu, u.raise_rsp e, (u.raise_inbox e).trans hin⟩

/-! ### The statements -/

/-- Settles O7: a legal word's response is its command's own, an illegal word's is E_ILLEGAL. -/
theorem everyAcceptedCommandIsAnswered : Obligations.EveryAcceptedCommandIsAnswered := by
  intro s rest w h
  cases hd : decode w with
  | instr i =>
    rw [step_legal s rest w i h hd]
    exact exec_answers_and_keeps_inbox i { s with inbox := rest }
  | illegal why =>
    exact ⟨_, .error .illegal, step_illegal s rest w why h hd, State.raise_rsp _ _, State.raise_inbox _ _⟩

/-- Settles O6: the case of a legal word in `step`. -/
theorem stepRunsTheDecodedCommand : Obligations.StepRunsTheDecodedCommand := step_legal

/-- Settles O8: the case of an empty port in `step` (log 1). -/
theorem coreIdlesWithoutInput : Obligations.CoreIdlesWithoutInput := step_idle

end Sys2Proof.Machine
end

section
/-! PROOFS. Every command as two parts: what it does to the state, and the response it ends with (30_encoding.md R61,
60_exceptions.md R186). The properties of the whole machine below are proved of the two parts. -/

namespace Sys2Proof.Machine

/-- The state a command leaves, but for its response and the sticky bit of an error it raises. -/
def effectOf : Instr → State → State
  | .clre, s => s.clearSticky
  | .srst, s => s.softReset
  | .kclr, s => s.clearKey
  | .kpush b, s => s.pushKey b
  | .kexp, s => if s.keyCheck = none then s.construct.leaveMixWork else s.endInstance
  | .bclr, s => s.clearBlock
  | .bpush b, s => if s.blen = 8 then s else s.pushBlock b
  | .pack, s => (s.writeBlock (packBlock s.blockBytes)).clearBlock
  | .ldx0 v, s => s.writeX 0 v
  | .ldx1 v, s => s.writeX 1 v
  | .enc, s => if s.kv then (s.transformBlock encrypt).leaveRoundWork else s
  | .dec, s => if s.kv then (s.transformBlock decrypt).leaveRoundWork else s
  | .nop, s | .rdst, s | .rdcf, s | .rdb _, s | .rdx0, s | .rdx1, s => s

theorem effectOf_kexp (s : State) :
    effectOf .kexp s = if s.keyCheck = none then s.construct.leaveMixWork else s.endInstance := rfl
theorem effectOf_bpush (b : Byte) (s : State) :
    effectOf (.bpush b) s = if s.blen = 8 then s else s.pushBlock b := rfl
theorem effectOf_pack (s : State) :
    effectOf .pack s = (s.writeBlock (packBlock s.blockBytes)).clearBlock := rfl
theorem effectOf_enc (s : State) :
    effectOf .enc s = if s.kv then (s.transformBlock encrypt).leaveRoundWork else s := rfl
theorem effectOf_dec (s : State) :
    effectOf .dec s = if s.kv then (s.transformBlock decrypt).leaveRoundWork else s := rfl

/-- The response a command ends with. -/
def replyOf : Instr → State → Response
  | .rdst, s => .ok s.status
  | .rdcf, s => .ok (configWord s.cfg)
  | .kexp, s => s.keyCheck.elim (.ok (flagData (decide (s.klen = 0)))) .error
  | .bpush _, s => if s.blen = 8 then .error .bovf else .ok 0
  | .rdb k, s => .ok (byteData (s.blockByte k))
  | .rdx0, s => .ok (s.readX 0)
  | .rdx1, s => .ok (s.readX 1)
  | .enc, s | .dec, s => if s.kv then .ok 0 else .error .noKey
  | .nop, _ | .clre, _ | .srst, _ | .kclr, _ | .kpush _, _ | .bclr, _ | .pack, _ | .ldx0 _, _ | .ldx1 _, _ => .ok 0

/-- End a command with its response: a success answers, an error is raised. -/
def State.respond (s : State) : Response → State
  | .ok d => s.answer d
  | .error e => s.raise e

/-- `exec` is the two parts, one after the other. -/
theorem exec_eq_respond (i : Instr) (s : State) : exec i s = .next ((effectOf i s).respond (replyOf i s)) := by
  cases i with
  | kexp =>
    rcases h : s.keyCheck with _ | e
    · rw [exec_kexp_construct s h]; simp [effectOf, replyOf, h, State.respond]
    · rw [exec_kexp_error s e h]; simp [effectOf, replyOf, h, State.respond]
  | bpush b =>
    by_cases h : s.blen = 8
    · rw [exec_bpush_full b s h]; simp [effectOf, replyOf, h, State.respond]
    · rw [exec_bpush_room b s h]; simp only [effectOf, replyOf, h, if_false, State.respond]
  | enc =>
    rcases h : s.kv
    · rw [exec_enc_none s h]; simp [effectOf, replyOf, h, State.respond]
    · rw [exec_enc_instance s h]; simp [effectOf, replyOf, h, State.respond]
  | dec =>
    rcases h : s.kv
    · rw [exec_dec_none s h]; simp [effectOf, replyOf, h, State.respond]
    · rw [exec_dec_instance s h]; simp [effectOf, replyOf, h, State.respond]
  | _ => rfl

/-- The next state of a command, from its two parts. -/
theorem eq_respond_of_exec {i : Instr} {s t : State} (h : exec i s = .next t) :
    t = (effectOf i s).respond (replyOf i s) :=
  Host.Outcome.next.inj (h.symm.trans (exec_eq_respond i s))

end Sys2Proof.Machine
end

section
/-! PROOFS. The bytes the two buffers hold, before and after a push (10_state.md R12, R13; 41_converter.md R107,
42_key_schedule.md R121). -/

namespace Sys2Proof.Machine

theorem State.keyMaterial_eq_nil_iff (s : State) : s.keyMaterial = [] ↔ s.klen = 0 := by
  rw [← List.length_eq_zero_iff, State.keyMaterial_length, BitVec.toNat_eq]
  simp

/-- KPUSH writes `KB` and `KLEN` only. -/
theorem State.pushKey_frame (s : State) (b : Byte) :
    s.pushKey b = { s with kb := (s.pushKey b).kb, klen := (s.pushKey b).klen } := by
  unfold State.pushKey
  split_ifs <;> rfl

theorem State.keyMaterial_pushKey (s : State) (b : Byte) :
    (s.pushKey b).keyMaterial = if s.klen.toNat ≤ 254 then s.keyMaterial ++ [b] else s.keyMaterial := by
  split
  case isTrue h =>
    have hk : (s.klen + 1).toNat = s.klen.toNat + 1 := by simp; omega
    rw [State.pushKey_room s b h, State.keyMaterial, State.keyMaterial, hk, List.take_add_one]
    simp [Vector.toList_setIfInBounds, Nat.lt_succ_of_le h, List.take_set_of_le]
  case isFalse h =>
    rcases Nat.lt_or_ge s.klen.toNat 256 with hlt | hge
    · have hk : s.klen.toNat = 255 := by omega
      simp [State.pushKey_full s b hk, State.keyMaterial, hk]
    · rw [State.pushKey_over s b hge]

/-- With eight bytes held a push stores nothing. BPUSH does so only with BLEN above 8, never reached (log 13). -/
theorem State.blockBytes_pushBlock_full (s : State) (b : Byte) (h : 8 ≤ s.blen.toNat) :
    (s.pushBlock b).blockBytes = s.blockBytes.take (s.blen + 1).toNat := by
  have hbb : s.bb.setIfInBounds s.blen.toNat b = s.bb := Vector.setIfInBounds_eq_of_size_le h
  have hall : s.blockBytes = s.bb.toList := List.take_of_length_le (by simpa using h)
  rw [hall, State.blockBytes, State.pushBlock_bb, State.pushBlock_blen, hbb]

/-- Settles O19: the effect of KPUSH on the key material, and its response changes nothing there. -/
theorem kpushAppendsToKeyMaterial : Obligations.KpushAppendsToKeyMaterial := by
  intro s t b h
  rw [eq_respond_of_exec h]
  exact s.keyMaterial_pushKey b

end Sys2Proof.Machine
end

section
/-! PROOFS. Reset states: the states on which the clearing of SRST changes nothing (10_state.md R24, R25). -/

namespace Sys2Proof.Machine

theorem State.softReset_status (s : State) : s.softReset.status = 0 := by
  simp [State.status]

/-- The case of `rst` at the port. -/
theorem step_rst (s : State) (rest : List PortInput) (h : s.inbox = .rst :: rest) :
    step s = .next (State.hardReset { s with inbox := rest }) := by
  simp only [step, State.takeInput_cons s _ rest h]

/-- Power-up, `rst` and SRST all end in a state that clearing does not change. -/
theorem softReset_of_reset {s t : State} {c : Cfg}
    (h : t = State.resetWith c ∨ (∃ rest, s.inbox = .rst :: rest ∧ step s = .next t) ∨ exec .srst s = .next t) :
    t.softReset = t := by
  rcases h with rfl | ⟨rest, hin, hstep⟩ | hexec
  case inl => rfl
  case inr.inl =>
    rw [step_rst s rest hin] at hstep
    cases hstep
    rfl
  case inr.inr =>
    cases hexec
    rfl

/-- Settles O10: the fields of a state that clearing does not change. -/
theorem resetsClearScalarsAndBlock : Obligations.ResetsClearScalarsAndBlock := by
  intro s t c h
  rw [← softReset_of_reset h]
  exact ⟨rfl, rfl, rfl, rfl, rfl, rfl, rfl, rfl, rfl, rfl, t.softReset_status, rfl, rfl⟩

end Sys2Proof.Machine
end

section
/-! PROOFS. The invariant of 10_state.md R22: it holds at reset, and every operation and so every step keeps it. -/

namespace Sys2Proof.Machine

/-! ### Operations that leave the counters, `T`, `KV` and `EK` alone -/

theorem State.Inv.answer {s : State} (h : s.Inv) (d : Word) : (s.answer d).Inv := { h with }

theorem State.Inv.raise {s : State} (h : s.Inv) (e : Error) : (s.raise e).Inv := by
  cases e <;> exact { h with }

theorem State.Inv.respond {s : State} (h : s.Inv) (r : Response) : (s.respond r).Inv := by
  cases r with
  | ok d => exact h.answer d
  | error e => exact h.raise e

theorem State.Inv.takeInput {s : State} (h : s.Inv) (rest : List PortInput) :
    State.Inv { s with inbox := rest } := { h with }

theorem State.Inv.writeX {s : State} (h : s.Inv) (r : BitVec 1) (v : Word) : (s.writeX r v).Inv := by
  unfold State.writeX
  split <;> exact { h with }

theorem State.Inv.transformBlock_leaveRoundWork {s : State} (h : s.Inv) (f : List Word → Nat → Block → Block) :
    (s.transformBlock f).leaveRoundWork.Inv := { h with }

/-! ### The buffers -/

theorem State.Inv.pushKey {s : State} (h : s.Inv) (b : Byte) : (s.pushKey b).Inv := by
  have hklen : (s.pushKey b).klen.toNat ≤ 256 := by
    rw [s.pushKey_klen_toNat b h.klen]
    exact Nat.min_le_right _ _
  rw [s.pushKey_frame b]
  exact { h with klen := hklen }

theorem State.Inv.pushBlock {s : State} (h : s.Inv) (b : Byte) (hroom : s.blen ≠ 8) : (s.pushBlock b).Inv :=
  have hlt : s.blen.toNat < 8 := Nat.lt_of_le_of_ne h.blen fun h8 => hroom (BitVec.eq_of_toNat_eq h8)
  { h with blen := by rw [s.pushBlock_blen_toNat b hlt]; omega }

/-! ### The Cipher Instance and the resets -/

/-- With `KV` clear nothing is asked of `T` but its length. -/
theorem State.Inv.of_no_instance {s : State} (hklen : s.klen.toNat ≤ 256) (hblen : s.blen.toNat ≤ 8)
    (hlc : s.lc.toNat ≤ 64) (ht : s.t.length = s.cfg.tableWords.toNat) (hkv : s.kv = false) (hek : s.ek = false) :
    s.Inv where
  klen := hklen
  blen := hblen
  lc := hlc
  tableLength := ht
  advisory h := absurd (hek ▸ h) Bool.false_ne_true
  constructed h := absurd (hkv ▸ h) Bool.false_ne_true

theorem State.Inv.endInstance {s : State} (h : s.Inv) : s.endInstance.Inv :=
  .of_no_instance h.klen h.blen h.lc h.tableLength rfl rfl

theorem State.Inv.softReset {s : State} (ht : s.t.length = s.cfg.tableWords.toNat) : s.softReset.Inv :=
  .of_no_instance (by simp) (by simp) (by simp) ht rfl rfl

theorem State.Inv.hardReset {s : State} (ht : s.t.length = s.cfg.tableWords.toNat) : s.hardReset.Inv :=
  .of_no_instance (by simp) (by simp) (by simp) ht rfl rfl

/-- `B2W` gives `ceil(n/4)` words (41_converter.md R101). -/
theorem b2w_length (bs : List Byte) : (b2w bs).length = (bs.length + 3) / 4 := by
  induction hn : bs.length using Nat.strong_induction_on generalizing bs with
  | _ n ih =>
    rcases eq_or_ne bs [] with rfl | hne
    · simp at hn; simp [← hn]
    · have hpos : 0 < bs.length := List.length_pos_iff.2 hne
      rw [b2w_take_drop bs hne, List.length_cons, ih (n - 4) (by omega) (bs.drop 4) (by simp [hn])]
      omega

theorem State.wellFormed_of_keyCheck_none {s : State} (h : s.keyCheck = none) : s.cfg.WellFormed := by
  rcases s.keyCheck_cases with ⟨-, he⟩ | ⟨-, -, he⟩ | ⟨-, hw, -⟩
  · simp [h] at he
  · simp [h] at he
  · exact hw

/-- The Cipher Instance of a KEXP that passed its checks: `T` is the expansion of the key material. -/
theorem State.Inv.construct {s : State} (h : s.Inv) (hcheck : s.keyCheck = none) : s.construct.Inv := by
  have hlen : s.keyMaterial.length ≤ 255 := s.keyMaterial_length ▸ Nat.min_le_right _ _
  have hwords : (b2w s.keyMaterial).length ≤ 64 := by rw [b2w_length]; omega
  have hempty : s.construct.ek = true ↔ s.keyMaterial = [] := by simp [s.keyMaterial_eq_nil_iff]
  exact {
    klen := by simpa using h.klen
    blen := by simpa using h.blen
    lc := by simp only [State.construct_lc, keySchedule_l_length, BitVec.toNat_ofNat]; omega
    tableLength := by simp
    advisory := fun _ => s.construct_kv
    constructed := fun _ => by
      rw [State.construct_cfg]
      exact ⟨State.wellFormed_of_keyCheck_none hcheck, s.keyMaterial, hlen, s.construct_t, hempty⟩ }

theorem State.Inv.leaveMixWork {s : State} (h : s.Inv) : s.leaveMixWork.Inv := { h with }

/-! ### Commands and steps -/

theorem State.Inv.effect {s : State} (h : s.Inv) (i : Instr) : (effectOf i s).Inv := by
  cases i with
  | clre => exact { h with }
  | srst => exact .softReset h.tableLength
  | kclr => exact { h with klen := by simp [effectOf] }
  | kpush b => exact h.pushKey b
  | kexp =>
    rw [effectOf_kexp]
    split
    · next hcheck => exact (h.construct hcheck).leaveMixWork
    · exact h.endInstance
  | bclr => exact { h with blen := by simp [effectOf] }
  | bpush b =>
    rw [effectOf_bpush]
    split
    · exact h
    · next hroom => exact h.pushBlock b hroom
  | pack => exact { h with blen := by simp [effectOf] }
  | ldx0 v => exact h.writeX 0 v
  | ldx1 v => exact h.writeX 1 v
  | enc =>
    rw [effectOf_enc]
    split
    · exact h.transformBlock_leaveRoundWork encrypt
    · exact h
  | dec =>
    rw [effectOf_dec]
    split
    · exact h.transformBlock_leaveRoundWork decrypt
    · exact h
  | _ => exact h

/-- Settles O50: by the four things a step can do. -/
theorem invariantKeptByEveryStep : Obligations.InvariantKeptByEveryStep := by
  intro s t h hstep
  rcases step_cases s t hstep with ⟨-, rfl⟩ | ⟨rest, -, rfl⟩ | ⟨w, rest, i, -, -, hexec⟩ | ⟨w, rest, why, -, -, rfl⟩
  case inl => exact h
  case inr.inl => exact .hardReset h.tableLength
  case inr.inr.inl =>
    rw [eq_respond_of_exec hexec]
    exact ((h.takeInput rest).effect i).respond _
  case inr.inr.inr => exact (h.takeInput rest).raise .illegal

/-- Settles O51: no Cipher Instance exists at power-up, and `T` has its S entries. -/
theorem invariantHoldsAtReset : Obligations.InvariantHoldsAtReset := fun _ =>
  .of_no_instance (Nat.zero_le _) (Nat.zero_le _) (Nat.zero_le _) List.length_replicate rfl rfl

end Sys2Proof.Machine
end

section
/-! PROOFS. States that agree on what is visible (10_state.md R31) answer alike and stay in agreement. -/

namespace Sys2Proof.Machine

/-! ### What a command reads is visible -/

theorem SameVisible.status_eq {s₁ s₂ : State} (h : SameVisible s₁ s₂) : s₁.status = s₂.status := by
  simp only [State.status, h.blen, h.klen, h.eil, h.ebo, h.enk, h.etb, h.ekl, h.ek, h.kv]

theorem SameVisible.keyCheck_eq {s₁ s₂ : State} (h : SameVisible s₁ s₂) : s₁.keyCheck = s₂.keyCheck := by
  simp only [State.keyCheck, h.klen, h.cfg]

theorem SameVisible.block_eq {s₁ s₂ : State} (h : SameVisible s₁ s₂) : s₁.block = s₂.block := by
  simp only [State.block, h.x0, h.x1]

theorem SameVisible.reply_eq {s₁ s₂ : State} (h : SameVisible s₁ s₂) (i : Instr) : replyOf i s₁ = replyOf i s₂ := by
  cases i with
  | rdst => simp only [replyOf, h.status_eq]
  | rdcf => simp only [replyOf, h.cfg]
  | kexp => simp only [replyOf, h.keyCheck_eq, h.klen]
  | bpush b => simp only [replyOf, h.blen]
  | rdb k => simp only [replyOf, State.blockByte, h.x0, h.x1]
  | rdx0 => simp only [replyOf, State.readX, h.x0, h.x1]
  | rdx1 => simp only [replyOf, State.readX, h.x0, h.x1]
  | enc => simp only [replyOf, h.kv]
  | dec => simp only [replyOf, h.kv]
  | _ => rfl

/-! ### Every operation keeps the agreement -/

theorem SameVisible.answer {s₁ s₂ : State} (h : SameVisible s₁ s₂) (d : Word) :
    SameVisible (s₁.answer d) (s₂.answer d) := { h with rsp := rfl }

theorem SameVisible.raise {s₁ s₂ : State} (h : SameVisible s₁ s₂) (e : Error) :
    SameVisible (s₁.raise e) (s₂.raise e) := by
  cases e with
  | keyLen => exact { h with ekl := rfl, rsp := rfl }
  | table => exact { h with etb := rfl, rsp := rfl }
  | noKey => exact { h with enk := rfl, rsp := rfl }
  | bovf => exact { h with ebo := rfl, rsp := rfl }
  | illegal => exact { h with eil := rfl, rsp := rfl }

theorem SameVisible.respond {s₁ s₂ : State} (h : SameVisible s₁ s₂) (r : Response) :
    SameVisible (s₁.respond r) (s₂.respond r) := by
  cases r with
  | ok d => exact h.answer d
  | error e => exact h.raise e

theorem SameVisible.takeInput {s₁ s₂ : State} (h : SameVisible s₁ s₂) (rest : List PortInput) :
    SameVisible { s₁ with inbox := rest } { s₂ with inbox := rest } := { h with inbox := rfl }

theorem SameVisible.clearSticky {s₁ s₂ : State} (h : SameVisible s₁ s₂) :
    SameVisible s₁.clearSticky s₂.clearSticky :=
  { h with ekl := rfl, etb := rfl, enk := rfl, ebo := rfl, eil := rfl }

theorem SameVisible.clearKey {s₁ s₂ : State} (h : SameVisible s₁ s₂) : SameVisible s₁.clearKey s₂.clearKey :=
  { h with klen := rfl, keyMaterial := rfl }

theorem SameVisible.clearBlock {s₁ s₂ : State} (h : SameVisible s₁ s₂) : SameVisible s₁.clearBlock s₂.clearBlock :=
  { h with blen := rfl, blockBytes := rfl }

/-- KPUSH: the new key material is a function of the old and of KLEN. -/
theorem SameVisible.pushKey {s₁ s₂ : State} (h : SameVisible s₁ s₂) (b : Byte) :
    SameVisible (s₁.pushKey b) (s₂.pushKey b) := by
  have hklen : (s₁.pushKey b).klen = (s₂.pushKey b).klen := by
    unfold State.pushKey
    rw [h.klen]
    split_ifs <;> simp [h.klen]
  have hkey : (s₁.pushKey b).keyMaterial = (s₂.pushKey b).keyMaterial := by
    rw [State.keyMaterial_pushKey, State.keyMaterial_pushKey, h.klen, h.keyMaterial]
  rw [s₁.pushKey_frame b, s₂.pushKey_frame b]
  exact { h with klen := hklen, keyMaterial := hkey }

/-- BPUSH: the new bytes are a function of the old and of BLEN. -/
theorem SameVisible.pushBlock {s₁ s₂ : State} (h : SameVisible s₁ s₂) (b : Byte) :
    SameVisible (s₁.pushBlock b) (s₂.pushBlock b) :=
  { h with
    blen := congrArg (· + 1) h.blen
    blockBytes := by
      rcases Nat.lt_or_ge s₁.blen.toNat 8 with hroom | hfull
      · rw [s₁.blockBytes_pushBlock b hroom, s₂.blockBytes_pushBlock b (h.blen ▸ hroom), h.blockBytes]
      · rw [s₁.blockBytes_pushBlock_full b hfull, s₂.blockBytes_pushBlock_full b (h.blen ▸ hfull), h.blockBytes,
          h.blen] }

theorem SameVisible.writeBlock {s₁ s₂ : State} (h : SameVisible s₁ s₂) (p : Block) :
    SameVisible (s₁.writeBlock p) (s₂.writeBlock p) := { h with x0 := rfl, x1 := rfl }

theorem SameVisible.writeX {s₁ s₂ : State} (h : SameVisible s₁ s₂) (r : BitVec 1) (v : Word) :
    SameVisible (s₁.writeX r v) (s₂.writeX r v) := by
  unfold State.writeX
  split
  · exact { h with x0 := rfl }
  · exact { h with x1 := rfl }

/-- A block operation reads `T`, which is visible while `KV = 1`; the working registers it leaves are not. -/
theorem SameVisible.transformBlock_leaveRoundWork {s₁ s₂ : State} (h : SameVisible s₁ s₂) (hkv : s₁.kv = true)
    (f : List Word → Nat → Block → Block) :
    SameVisible (s₁.transformBlock f).leaveRoundWork (s₂.transformBlock f).leaveRoundWork := by
  unfold State.transformBlock
  rw [h.table hkv, h.cfg, h.block_eq]
  exact { h.writeBlock _ with }

/-- Two states given the same table and flags agree, whatever stands in `L` and `LC`. -/
theorem SameVisible.setInstance {s₁ s₂ : State} (h : SameVisible s₁ s₂) (t : List Word) (kv : Bool) {ek₁ ek₂ : Bool}
    (hek : ek₁ = ek₂) (l₁ l₂ : Vector Word 64) (lc₁ lc₂ : BitVec 7) :
    SameVisible { s₁ with t := t, l := l₁, lc := lc₁, kv := kv, ek := ek₁ }
      { s₂ with t := t, l := l₂, lc := lc₂, kv := kv, ek := ek₂ } :=
  { h with kv := rfl, table := fun _ => rfl, ek := hek }

theorem SameVisible.adopt {s₁ s₂ : State} (h : SameVisible s₁ s₂) (m : Mix) :
    SameVisible (s₁.adopt m) (s₂.adopt m) := by
  have hek : decide (s₁.klen = 0) = decide (s₂.klen = 0) := by rw [h.klen]
  exact h.setInstance m.t true hek _ _ _ _

/-- The Cipher Instance KEXP constructs is a function of the key material and the configuration. -/
theorem SameVisible.construct {s₁ s₂ : State} (h : SameVisible s₁ s₂) : SameVisible s₁.construct s₂.construct := by
  unfold State.construct
  rw [h.keyMaterial, h.cfg]
  exact h.adopt _

theorem SameVisible.leaveMixWork {s₁ s₂ : State} (h : SameVisible s₁ s₂) :
    SameVisible s₁.leaveMixWork s₂.leaveMixWork := { h with }

theorem SameVisible.endInstance {s₁ s₂ : State} (h : SameVisible s₁ s₂) :
    SameVisible s₁.endInstance s₂.endInstance :=
  { h with kv := rfl, ek := rfl, table := fun hkv => absurd hkv Bool.false_ne_true }

theorem SameVisible.softReset {s₁ s₂ : State} (h : SameVisible s₁ s₂) : SameVisible s₁.softReset s₂.softReset :=
  { h.clearSticky.clearKey.clearBlock.endInstance with x0 := rfl, x1 := rfl }

/-- After `rst` the visible part is all zeros and empty buffers, but for the configuration and the inputs to come. -/
theorem SameVisible.hardReset {s₁ s₂ : State} (h : SameVisible s₁ s₂) : SameVisible s₁.hardReset s₂.hardReset := by
  constructor <;> simp [State.keyMaterial, State.blockBytes, h.cfg, h.inbox]

/-! ### Commands and steps -/

theorem SameVisible.effect {s₁ s₂ : State} (h : SameVisible s₁ s₂) (i : Instr) :
    SameVisible (effectOf i s₁) (effectOf i s₂) := by
  cases i with
  | clre => exact h.clearSticky
  | srst => exact h.softReset
  | kclr => exact h.clearKey
  | kpush b => exact h.pushKey b
  | kexp =>
    rw [effectOf_kexp, effectOf_kexp, ← h.keyCheck_eq]
    split
    · exact h.construct.leaveMixWork
    · exact h.endInstance
  | bclr => exact h.clearBlock
  | bpush b =>
    rw [effectOf_bpush, effectOf_bpush, ← h.blen]
    split
    · exact h
    · exact h.pushBlock b
  | pack =>
    rw [effectOf_pack, effectOf_pack, h.blockBytes]
    exact (h.writeBlock _).clearBlock
  | ldx0 v => exact h.writeX 0 v
  | ldx1 v => exact h.writeX 1 v
  | enc =>
    rw [effectOf_enc, effectOf_enc, ← h.kv]
    split
    · next hkv => exact h.transformBlock_leaveRoundWork hkv encrypt
    · exact h
  | dec =>
    rw [effectOf_dec, effectOf_dec, ← h.kv]
    split
    · next hkv => exact h.transformBlock_leaveRoundWork hkv decrypt
    · exact h
  | _ => exact h

/-- Settles O52: by the four things a step can do, each the same in both states, since the inputs are. -/
theorem unspecifiedContentsAreInvisible : Obligations.UnspecifiedContentsAreInvisible := by
  intro s₁ s₂ t₁ h hstep
  rcases step_cases s₁ t₁ hstep with
    ⟨hin, rfl⟩ | ⟨rest, hin, rfl⟩ | ⟨w, rest, i, hin, hd, hexec⟩ | ⟨w, rest, why, hin, hd, rfl⟩
  all_goals rw [h.inbox] at hin
  case inl => exact ⟨s₂, step_idle s₂ hin, h⟩
  case inr.inl => exact ⟨_, step_rst s₂ rest hin, (h.takeInput rest).hardReset⟩
  case inr.inr.inl =>
    have h' := h.takeInput rest
    refine ⟨_, (step_legal s₂ rest w i hin hd).trans (exec_eq_respond i _), ?_⟩
    rw [eq_respond_of_exec hexec, h'.reply_eq i]
    exact (h'.effect i).respond _
  case inr.inr.inr => exact ⟨_, step_illegal s₂ rest w why hin hd, (h.takeInput rest).raise .illegal⟩

end Sys2Proof.Machine
end

section
/-! PROOFS. The sticky bits (10_state.md R20): who clears them, and that no command but RDST reads them. -/

namespace Sys2Proof.Machine

/-! ### Clearing -/

theorem State.sticky_answer (s : State) (d : Word) (e : Error) : (s.answer d).sticky e = s.sticky e := by
  cases e <;> rfl

/-- A response clears no sticky bit. -/
theorem State.sticky_respond_of_sticky {s : State} {e : Error} (h : s.sticky e = true) (r : Response) :
    (s.respond r).sticky e = true := by
  cases r with
  | ok d => exact (s.sticky_answer d e).trans h
  | error e' => simp [State.respond, State.sticky_raise, h]

/-- The effects of the commands on the sticky bits: none, but for CLRE and SRST. -/
theorem sticky_effectOf (i : Instr) (s : State) (e : Error) (hclre : i ≠ .clre) (hsrst : i ≠ .srst) :
    (effectOf i s).sticky e = s.sticky e := by
  cases i with
  | clre => exact absurd rfl hclre
  | srst => exact absurd rfl hsrst
  | kpush b => cases e <;> simp [effectOf, State.sticky]
  | kexp => rw [effectOf_kexp]; split <;> cases e <;> simp [State.sticky]
  | bpush b => rw [effectOf_bpush]; split <;> cases e <;> simp [State.sticky]
  | ldx0 v => cases e <;> simp [effectOf, State.sticky]
  | ldx1 v => cases e <;> simp [effectOf, State.sticky]
  | enc => rw [effectOf_enc]; split <;> cases e <;> simp [State.sticky]
  | dec => rw [effectOf_dec]; split <;> cases e <;> simp [State.sticky]
  | _ => cases e <;> rfl

/-- Settles O47: neither the effect nor the response of any other command clears a sticky bit. -/
theorem stickyBitsAreClearedOnlyByClreAndSrst : Obligations.StickyBitsAreClearedOnlyByClreAndSrst := by
  intro i s t e hexec hset hclear
  by_contra hi
  obtain ⟨hclre, hsrst⟩ := not_or.1 hi
  have hstays : t.sticky e = true := by
    rw [eq_respond_of_exec hexec]
    exact State.sticky_respond_of_sticky ((sticky_effectOf i s e hclre hsrst).trans hset) _
  exact absurd (hstays.symm.trans hclear) (by decide)

/-! ### Reading -/

/-- Two states that are the same once the sticky bits are cleared differ in those bits only. -/
theorem State.eq_withSticky_of_clearSticky_eq {u t : State} (h : u.clearSticky = t.clearSticky) :
    u = t.withSticky u.ekl u.etb u.enk u.ebo u.eil :=
  congrArg (fun v => v.withSticky u.ekl u.etb u.enk u.ebo u.eil) h

theorem State.clearSticky_withSticky (s : State) (b₁ b₂ b₃ b₄ b₅ : Bool) :
    (s.withSticky b₁ b₂ b₃ b₄ b₅).clearSticky = s.clearSticky := rfl

theorem State.clearSticky_respond (s : State) (r : Response) :
    (s.respond r).clearSticky = { s.clearSticky with rsp := some r } := by
  cases r with
  | ok d => rfl
  | error e => cases e <;> rfl

theorem State.clearSticky_pushKey (s : State) (b : Byte) : (s.pushKey b).clearSticky = s.clearSticky.pushKey b := by
  unfold State.pushKey
  rw [State.clearSticky_klen]
  split_ifs <;> rfl

theorem State.clearSticky_adopt (s : State) (m : Mix) : (s.adopt m).clearSticky = s.clearSticky.adopt m := rfl

theorem State.clearSticky_construct (s : State) : s.construct.clearSticky = s.clearSticky.construct := by
  have hkey : s.clearSticky.keyMaterial = s.keyMaterial := rfl
  rw [State.construct, State.construct, State.clearSticky_adopt, hkey, State.clearSticky_cfg]

theorem State.clearSticky_leaveMixWork (s : State) : s.leaveMixWork.clearSticky = s.clearSticky.leaveMixWork := rfl

/-- Clearing the sticky bits after a command's effect, or before it, is the same. -/
theorem clearSticky_effectOf (i : Instr) (s : State) : (effectOf i s).clearSticky = effectOf i s.clearSticky := by
  cases i with
  | kpush b => exact s.clearSticky_pushKey b
  | kexp =>
    have hcheck : s.clearSticky.keyCheck = s.keyCheck := rfl
    rw [effectOf_kexp, effectOf_kexp, hcheck]
    split
    · rw [State.clearSticky_leaveMixWork, State.clearSticky_construct]
    · rfl
  | bpush b =>
    rw [effectOf_bpush, effectOf_bpush, State.clearSticky_blen]
    split <;> rfl
  | enc =>
    rw [effectOf_enc, effectOf_enc, State.clearSticky_kv]
    split <;> rfl
  | dec =>
    rw [effectOf_dec, effectOf_dec, State.clearSticky_kv]
    split <;> rfl
  | _ => rfl

/-- No command but RDST answers anything that depends on the sticky bits. -/
theorem replyOf_clearSticky (i : Instr) (s : State) (hi : i ≠ .rdst) : replyOf i s.clearSticky = replyOf i s := by
  cases i with
  | rdst => exact absurd rfl hi
  | _ => rfl

/-- Settles O48: with the sticky bits cleared, the next states are the same function of the same state. -/
theorem stickyBitsChangeNoBehaviour : Obligations.StickyBitsChangeNoBehaviour := by
  intro i s t b₁ b₂ b₃ b₄ b₅ hi hexec
  refine ⟨_, exec_eq_respond i _, _, _, _, _, _, State.eq_withSticky_of_clearSticky_eq ?_⟩
  rw [eq_respond_of_exec hexec, State.clearSticky_respond, State.clearSticky_respond, clearSticky_effectOf,
    clearSticky_effectOf, ← replyOf_clearSticky i _ hi, ← replyOf_clearSticky i s hi, State.clearSticky_withSticky]

end Sys2Proof.Machine
end

section
/-! PROOFS. The reading commands (20_memory.md R47): each answers a value that does not depend on the response, and
does nothing else. -/

namespace Sys2Proof.Machine

/-- Of two responses the later one is presented. -/
theorem State.answer_answer (s : State) (d d' : Word) : (s.answer d).answer d' = s.answer d' := rfl

/-- A command that only answers a value `read` of the state changes nothing but the response. If that value does not
depend on the response, the command issued again finds the same value and answers it again. -/
theorem exec_reading_keeps_and_repeats {i : Instr} {read : State → Word} {s t : State}
    (hanswer : ∀ u, exec i u = .next (u.answer (read u))) (hread : ∀ u d, read (u.answer d) = read u)
    (hexec : exec i s = .next t) : t = { s with rsp := t.rsp } ∧ exec i t = .next t := by
  obtain rfl : s.answer (read s) = t := Host.Outcome.next.inj ((hanswer s).symm.trans hexec)
  refine ⟨rfl, ?_⟩
  rw [hanswer, hread, State.answer_answer]

/-- Settles O49: STATUS, CONFIG, the block registers and their bytes are the same whatever response is present. -/
theorem readingHasNoSideEffect : Obligations.ReadingHasNoSideEffect := by
  rintro i s t (rfl | rfl | rfl | rfl | ⟨k, rfl⟩) hexec
  case inl => exact exec_reading_keeps_and_repeats exec_rdst (fun _ _ => rfl) hexec
  case inr.inl => exact exec_reading_keeps_and_repeats exec_rdcf (fun _ _ => rfl) hexec
  case inr.inr.inl => exact exec_reading_keeps_and_repeats exec_rdx0 (fun _ _ => rfl) hexec
  case inr.inr.inr.inl => exact exec_reading_keeps_and_repeats exec_rdx1 (fun _ _ => rfl) hexec
  case inr.inr.inr.inr => exact exec_reading_keeps_and_repeats (exec_rdb k) (fun _ _ => rfl) hexec

end Sys2Proof.Machine
end

section
/-! PROOFS. The encoding (30_encoding.md R60 to R68): what the decoder makes of a word is written on its two fields, the
opcode and the operand field, format by format. -/

namespace Sys2Proof

/-! ### The operand field of a command -/

/-- The operand field of a command carries its operand, and the decoder reads it back (R62 to R65). -/
theorem withOperand_arg (op : BitVec 8) (i : Instr) : i.mnemonic.withOperand (op ++ i.arg) = i := by
  cases i with
  | kpush b => exact congrArg Instr.kpush ((byteField_append op _).trans BitVec.extractLsb'_append_eq_right)
  | bpush b => exact congrArg Instr.bpush ((byteField_append op _).trans BitVec.extractLsb'_append_eq_right)
  | rdb k => exact congrArg Instr.rdb ((indexField_append op _).trans BitVec.extractLsb'_append_eq_right)
  | ldx0 v => exact congrArg Instr.ldx0 (argField_append op v)
  | ldx1 v => exact congrArg Instr.ldx1 (argField_append op v)
  | _ => rfl

/-- Outside its operand the operand field of a command is 0, as its format demands. -/
theorem operandLegal_arg (op : BitVec 8) (i : Instr) : i.mnemonic.format.operandLegal (op ++ i.arg) = true := by
  rw [operandLegal_append]
  cases i with
  | kpush b => exact beq_iff_eq.2 BitVec.extractLsb'_append_eq_left
  | bpush b => exact beq_iff_eq.2 BitVec.extractLsb'_append_eq_left
  | rdb k => exact beq_iff_eq.2 BitVec.extractLsb'_append_eq_left
  | _ => rfl

theorem exists_fields (c : Command) : ∃ (op : BitVec 8) (arg : Word), c = op ++ arg :=
  ⟨opcodeField c, argField c, (word_eq_fields c).symm⟩

/-- A word whose high bits are 0 is its low bits, extended by zeros. -/
theorem zero_append_low {n k : Nat} {v : BitVec (n + k)} (h : v.extractLsb' k n = 0) :
    (0 : BitVec n) ++ v.extractLsb' 0 k = v := by
  rw [← h]
  exact BitVec.extractLsb'_append_extractLsb'

/-- The command read off a word with a legal operand field has that very operand field. -/
theorem arg_withOperand (m : Mnemonic) (c : Command) (h : m.format.operandLegal c = true) :
    (m.withOperand c).arg = argField c := by
  obtain ⟨op, arg, rfl⟩ := exists_fields c
  rw [operandLegal_append] at h
  rw [argField_append]
  have byte_extends (hzero : arg.extractLsb' 8 24 = 0) : (0 : BitVec 24) ++ byteField (op ++ arg) = arg :=
    (congrArg _ (byteField_append op arg)).trans (zero_append_low hzero)
  cases m with
  | kpush => exact byte_extends (beq_iff_eq.1 h)
  | bpush => exact byte_extends (beq_iff_eq.1 h)
  | rdb => exact (congrArg _ (indexField_append op arg)).trans (zero_append_low (beq_iff_eq.1 h))
  | ldx0 => exact argField_append op arg
  | ldx1 => exact argField_append op arg
  | _ => exact (beq_iff_eq.1 h).symm

/-! ### Decoding and encoding are inverse -/

theorem decode_encode (i : Instr) : decode (encode i) = .instr i :=
  (decode_eq_instr_iff _ i).2 ⟨opcodeField_append _ _, operandLegal_arg _ i, (withOperand_arg _ i).symm⟩

/-- Settles O1: the decoder finds the opcode, a legal operand field and the operand in the word of a command. -/
theorem decodeInvertsEncode : Obligations.DecodeInvertsEncode := decode_encode

theorem encode_of_decode {c : Command} {i : Instr} (h : decode c = .instr i) : encode i = c := by
  obtain ⟨hop, hlegal, hi⟩ := (decode_eq_instr_iff c i).1 h
  have harg : i.arg = argField c := (congrArg Instr.arg hi).trans (arg_withOperand _ c hlegal)
  rw [encode, ← hop, harg, word_eq_fields]

/-- Settles O2: the opcode and the operand field of a legal word are those of its command. -/
theorem encodeInvertsDecode : Obligations.EncodeInvertsDecode := fun _ _ => encode_of_decode

/-- Settles O5: each of the eight words is the word of the command the spec names. -/
theorem spelledWordsDecode : Obligations.SpelledWordsDecode :=
  ⟨decode_encode (.kpush 0x2B), decode_encode (.ldx0 0x33221100), decode_encode (.ldx1 0x77665544),
    decode_encode (.rdb 3), decode_encode .kexp, decode_encode .rdcf, decode_encode (.bpush 0xEA), decode_encode .dec⟩

/-! ### The opcode map: masks and matches (R66) -/

theorem fields_inj {op op' : BitVec 8} {arg arg' : Word} :
    (op ++ arg : Command) = op' ++ arg' ↔ op = op' ∧ arg = arg' := by
  constructor
  · intro h
    have hop := congrArg opcodeField h
    have harg := congrArg argField h
    rw [opcodeField_append, opcodeField_append] at hop
    rw [argField_append, argField_append] at harg
    exact ⟨hop, harg⟩
  · rintro ⟨rfl, rfl⟩
    rfl

/-- Masking all but the low `k` bits gives 0 exactly when the high bits are 0. -/
theorem and_highOnes_eq_zero_iff {n k : Nat} (v : BitVec (n + k)) :
    v &&& (BitVec.allOnes n ++ 0#k) = 0 ↔ v.extractLsb' k n = 0 := by
  have hmask : v &&& (BitVec.allOnes n ++ 0#k) = v.extractLsb' k n ++ 0#k := calc
    _ = (v.extractLsb' k n ++ v.extractLsb' 0 k) &&& (BitVec.allOnes n ++ 0#k) :=
      congrArg (· &&& _) BitVec.extractLsb'_append_extractLsb'.symm
    _ = (v.extractLsb' k n &&& BitVec.allOnes n) ++ (v.extractLsb' 0 k &&& 0#k) := BitVec.and_append
    _ = _ := by rw [BitVec.and_allOnes, BitVec.and_zero]
  have hzero : (0 : BitVec (n + k)) = 0#n ++ 0#k := BitVec.zero_append_zero.symm
  rw [hmask, hzero, BitVec.append_left_inj]
  rfl

/-- The must-be-zero bits of a format within the operand field. -/
def Format.reservedBits : Format → Word
  | .N => BitVec.allOnes 32
  | .B => BitVec.allOnes 24 ++ (0 : BitVec 8)
  | .W => 0
  | .I => BitVec.allOnes 29 ++ (0 : BitVec 3)

/-- A format's mask keeps the opcode and the must-be-zero bits. -/
theorem maskBits_eq (f : Format) : f.maskBits = BitVec.allOnes 8 ++ f.reservedBits := by
  cases f <;> rfl

theorem operandLegal_iff (f : Format) (c : Command) : f.operandLegal c = true ↔ argField c &&& f.reservedBits = 0 := by
  obtain ⟨op, arg, rfl⟩ := exists_fields c
  rw [operandLegal_append, argField_append]
  cases f with
  | N => exact beq_iff_eq.trans (iff_of_eq (congrArg (· = 0) BitVec.and_allOnes.symm))
  | B => exact beq_iff_eq.trans (and_highOnes_eq_zero_iff (n := 24) (k := 8) arg).symm
  | W => exact iff_of_true rfl BitVec.and_zero
  | I => exact beq_iff_eq.trans (and_highOnes_eq_zero_iff (n := 29) (k := 3) arg).symm

theorem and_maskBits_eq_matchBits_iff (m : Mnemonic) (c : Command) :
    c &&& m.format.maskBits = m.matchBits ↔ opcodeField c = m.opcode ∧ m.format.operandLegal c = true := by
  have hmasked : c &&& m.format.maskBits = opcodeField c ++ (argField c &&& m.format.reservedBits) := calc
    _ = (opcodeField c ++ argField c : Command) &&& (BitVec.allOnes 8 ++ m.format.reservedBits) := by
      rw [word_eq_fields, maskBits_eq]
    _ = (opcodeField c &&& BitVec.allOnes 8) ++ (argField c &&& m.format.reservedBits) := BitVec.and_append
    _ = _ := by rw [BitVec.and_allOnes]
  rw [hmasked, ← Laws.EncodesItsRow.opcode_row, fields_inj, operandLegal_iff]

theorem decode_mnemonic_iff (m : Mnemonic) (c : Command) :
    (∃ i, decode c = .instr i ∧ i.mnemonic = m) ↔ opcodeField c = m.opcode ∧ m.format.operandLegal c = true := by
  constructor
  · rintro ⟨i, hi, rfl⟩
    obtain ⟨hop, hlegal, -⟩ := (decode_eq_instr_iff c i).1 hi
    exact ⟨hop, hlegal⟩
  · rintro ⟨hop, hlegal⟩
    have hm := withOperand_mnemonic m c
    exact ⟨m.withOperand c, (decode_eq_instr_iff c _).2 (by rw [hm]; exact ⟨hop, hlegal, rfl⟩), hm⟩

/-- Settles O3: each row written out holds its mnemonic's match and mask, and both sides of the row's `↔` say that the
opcode is the mnemonic's and the must-be-zero bits are 0. -/
theorem namedExactlyWhenMaskedBitsMatch : Obligations.NamedExactlyWhenMaskedBitsMatch := by
  unfold Obligations.NamedExactlyWhenMaskedBitsMatch
  intro row hrow c
  have hcolumns : row.2 = (row.1.matchBits, row.1.format.maskBits) := by
    revert row
    decide
  rw [hcolumns, decode_mnemonic_iff, and_maskBits_eq_matchBits_iff]

/-! ### Illegal words (R67, R68) -/

theorem decode_of_unassigned {c : Command} (h : mnemonicOfOpcode (opcodeField c) = none) :
    decode c = .illegal .unassignedOpcode := by
  rw [decode, h]

theorem decode_of_assigned {c : Command} {m : Mnemonic} (h : opcodeField c = m.opcode) :
    decode c = if m.format.operandLegal c then .instr (m.withOperand c) else .illegal .operandBitSet := by
  rw [decode, h, mnemonicOfOpcode_opcode]

theorem Mnemonic.mem_all (m : Mnemonic) : m ∈ Mnemonic.all := by
  cases m <;> decide

theorem Mnemonic.opcode_injective {m m' : Mnemonic} (h : m.opcode = m'.opcode) : m = m' := by
  have hm := congrArg mnemonicOfOpcode h
  rw [mnemonicOfOpcode_opcode, mnemonicOfOpcode_opcode] at hm
  exact Option.some.inj hm

/-- The opcodes of the mnemonics of a format, in the order of the opcode map. -/
def Format.opcodes (f : Format) : List (BitVec 8) :=
  (Mnemonic.all.filter fun m => m.format = f).map Mnemonic.opcode

theorem opcode_mem_opcodes_iff (m : Mnemonic) (f : Format) : m.opcode ∈ f.opcodes ↔ m.format = f := by
  rw [Format.opcodes, List.mem_map]
  constructor
  · rintro ⟨m', hm', heq⟩
    obtain rfl := Mnemonic.opcode_injective heq
    exact of_decide_eq_true (List.mem_filter.1 hm').2
  · exact fun h => ⟨m, List.mem_filter.2 ⟨m.mem_all, decide_eq_true h⟩, rfl⟩

theorem operandLegal_eq_false_iff (f : Format) (op : BitVec 8) (arg : Word) : f.operandLegal (op ++ arg) = false ↔
    (f = .N ∧ arg ≠ 0) ∨ (f = .B ∧ arg.extractLsb' 8 24 ≠ (0 : BitVec 24)) ∨
      (f = .I ∧ arg.extractLsb' 3 29 ≠ (0 : BitVec 29)) := by
  rw [operandLegal_append]
  cases f <;> simp

/-- The two kinds of illegal words (R68), on the fields of a word. -/
theorem decode_illegal_iff (op : BitVec 8) (arg : Word) : (∃ why, decode (op ++ arg) = .illegal why) ↔
    op ∉ Mnemonic.all.map Mnemonic.opcode ∨ (op ∈ Format.N.opcodes ∧ arg ≠ 0) ∨
      (op ∈ Format.B.opcodes ∧ arg.extractLsb' 8 24 ≠ (0 : BitVec 24)) ∨
      (op ∈ Format.I.opcodes ∧ arg.extractLsb' 3 29 ≠ (0 : BitVec 29)) := by
  by_cases hop : op ∈ Mnemonic.all.map Mnemonic.opcode
  · obtain ⟨m, -, rfl⟩ := List.mem_map.1 hop
    simp only [hop, not_true_eq_false, false_or, opcode_mem_opcodes_iff]
    rw [← operandLegal_eq_false_iff m.format m.opcode arg, decode_of_assigned (opcodeField_append m.opcode arg)]
    cases m.format.operandLegal (m.opcode ++ arg) <;> simp
  · refine iff_of_true ⟨.unassignedOpcode, decode_of_unassigned ?_⟩ (.inl hop)
    rw [opcodeField_append, Option.eq_none_iff_forall_ne_some]
    intro m hm
    exact hop (List.mem_map.2 ⟨m, m.mem_all, (opcode_of_mnemonicOfOpcode op m hm).symm⟩)

end Sys2Proof

namespace Sys2Proof.Machine

/-- Settles O4: the opcodes listed are those of the model's opcode map, and the word is illegal by R68 or a command. -/
theorem illegalWordsRaiseOnlyTheirError : Obligations.IllegalWordsRaiseOnlyTheirError := by
  unfold Obligations.IllegalWordsRaiseOnlyTheirError
  intro s rest op arg hin
  have hillegal := decode_illegal_iff op arg
  rw [show Format.I.opcodes = [0x23] from rfl, List.mem_singleton] at hillegal
  split
  next hbad =>
    obtain ⟨why, hd⟩ := hillegal.2 hbad
    exact ⟨step_illegal s rest _ why hin hd, rfl⟩
  next hgood =>
    cases hd : decode (op ++ arg) with
    | instr i => exact ⟨i, rfl⟩
    | illegal why => exact absurd (hillegal.1 ⟨why, hd⟩) hgood

/-- Settles O9: the two fields of the response word, and the codes of the five causes. -/
theorem responseWordLayout : Obligations.ResponseWordLayout := by
  intro r
  obtain ⟨hcode, hdata⟩ : r.err.toNat ≤ 5 ∧ (r.err ≠ 0 → r.data = 0) := by
    cases r with
    | ok d => exact ⟨Nat.zero_le 5, fun h => absurd rfl h⟩
    | error e => exact ⟨by cases e <;> decide, fun _ => rfl⟩
  exact ⟨BitVec.extractLsb'_append_eq_left, BitVec.extractLsb'_append_eq_right, hcode, hdata, fun _ => ⟨rfl, rfl⟩⟩

end Sys2Proof.Machine
end

section
/-! PROOFS. Assembler lines (30_encoding.md R70): a line is accepted exactly when its operand is as its format asks and in
range, and such an operand fits the operand field. -/

namespace Sys2Proof.Machine

theorem assembleLine_eq_some_iff (l : AsmLine) (i : Instr) : assembleLine l = some i ↔
    l.WellFormed ∧ i = l.mnemonic.withOperand (BitVec.ofNat 40 (l.operand.getD 0)) := by
  rw [assembleLine, Option.ite_none_right_eq_some, Option.some_inj, eq_comm (a := i)]

theorem extractLsb'_ofNat_eq_zero {v start len : Nat} (h : v < 2 ^ start) :
    (BitVec.ofNat 40 v).extractLsb' start len = 0 := by
  apply BitVec.eq_of_toNat_eq
  have hlow : v % 2 ^ 40 < 2 ^ start := (Nat.mod_le v _).trans_lt h
  rw [BitVec.extractLsb'_toNat, BitVec.toNat_ofNat, Nat.shiftRight_eq_div_pow, Nat.div_eq_of_lt hlow, Nat.zero_mod]
  rfl

theorem argField_ofNat_toNat {v : Nat} (h : v < 2 ^ 32) : (argField (BitVec.ofNat 40 v)).toNat = v := by
  rw [argField, BitVec.extractLsb'_toNat, BitVec.toNat_ofNat]
  omega

/-- An operand in its format's range has its must-be-zero bits 0, and the operand field holds it. -/
theorem operand_fits_of_admits {f : Format} {operand : Option Nat} (h : f.admits operand = true) :
    f.operandLegal (BitVec.ofNat 40 (operand.getD 0)) = true ∧
      (argField (BitVec.ofNat 40 (operand.getD 0))).toNat = operand.getD 0 := by
  cases f <;> cases operand <;> simp only [Format.admits, decide_eq_true_eq, Bool.false_eq_true] at h
  case N.none => exact ⟨rfl, rfl⟩
  case B.some v =>
    exact ⟨beq_iff_eq.2 (extractLsb'_ofNat_eq_zero (Nat.lt_succ_of_le h)),
      argField_ofNat_toNat (h.trans_lt (by decide))⟩
  case W.some v => exact ⟨rfl, argField_ofNat_toNat (Nat.lt_succ_of_le h)⟩
  case I.some v =>
    exact ⟨beq_iff_eq.2 (extractLsb'_ofNat_eq_zero (Nat.lt_succ_of_le h)),
      argField_ofNat_toNat (h.trans_lt (by decide))⟩

/-- Settles O55: R70's range of each format, and the operand of an accepted line in its command's operand field. -/
theorem assemblerAcceptsExactlyInRangeOperands : Obligations.AssemblerAcceptsExactlyInRangeOperands := by
  unfold Obligations.AssemblerAcceptsExactlyInRangeOperands
  rintro ⟨m, operand⟩
  simp only [assembleLine_eq_some_iff, exists_and_left, exists_eq, and_true]
  constructor
  · rintro i ⟨hwf, rfl⟩
    obtain ⟨hlegal, hfits⟩ := operand_fits_of_admits hwf
    exact ⟨withOperand_mnemonic _ _, (congrArg BitVec.toNat (arg_withOperand _ _ hlegal)).trans hfits⟩
  · cases operand with
    | none => cases m <;> simp [AsmLine.WellFormed, Mnemonic.format, Format.admits]
    | some v => cases m <;> simp [AsmLine.WellFormed, Mnemonic.format, Format.admits]

end Sys2Proof.Machine
end

section
/-! PROOFS. The word operations (40_datapath_primitives.md R80 to R88): the arithmetic of sums and differences, the byte
swap, and where a rotation moves each bit. -/

namespace Sys2Proof.Machine

/-! ### Sums, differences and the byte swap -/

theorem sub32_toNat (x y : Word) :
    (sub32 x y).toNat = if y.toNat ≤ x.toNat then x.toNat - y.toNat else x.toNat + 2 ^ 32 - y.toNat := by
  rw [sub32_eq]
  split
  next hle => exact BitVec.toNat_sub_of_le hle
  next hlt =>
    have hborrow : (x - y).toNat = 2 ^ 32 - (y.toNat - x.toNat) := BitVec.toNat_sub_of_lt (Nat.lt_of_not_le hlt)
    omega

theorem rotAmount_add32 (x y : Word) : rotAmount (add32 x y) = (x.toNat + y.toNat) % 32 := by
  rw [rotAmount_eq, add32_eq, BitVec.toNat_add, Nat.mod_mod_of_dvd _ (by decide : 32 ∣ 2 ^ 32)]

theorem byteOfWord_bswap_of_lt (x : Word) {i : Nat} (hi : i < 4) : byteOfWord (bswap x) i = byteOfWord x (3 - i) := by
  obtain ⟨h0, h1, h2, h3⟩ := byteOfWord_bswap x
  match i, hi with
  | 0, _ => exact h0
  | 1, _ => exact h1
  | 2, _ => exact h2
  | 3, _ => exact h3

/-- Two words with the same four bytes are equal. -/
theorem eq_of_byteOfWord_eq {x y : Word} (h : ∀ i < 4, byteOfWord x i = byteOfWord y i) : x = y := by
  apply BitVec.eq_of_toNat_eq
  rw [toNat_eq_bytes x, toNat_eq_bytes y, h 0 (by decide), h 1 (by decide), h 2 (by decide), h 3 (by decide)]

theorem bswap_bswap (x : Word) : bswap (bswap x) = x := by
  apply eq_of_byteOfWord_eq
  intro i hi
  rw [byteOfWord_bswap_of_lt _ hi, byteOfWord_bswap_of_lt _ (by omega), show 3 - (3 - i) = i by omega]

/-- Settles O38: the library's word arithmetic for sum, difference and exclusive or; the byte swap byte by byte. -/
theorem wordOperationsByFormula : Obligations.WordOperationsByFormula := by
  intro x y
  exact ⟨BitVec.toNat_add x y, sub32_toNat x y, fun _ => BitVec.getLsbD_xor, rotAmount_add32 x y,
    fun _ hi => byteOfWord_bswap_of_lt x hi, bswap_bswap x⟩

/-! ### Rotations -/

/-- R85: a bit below `n` comes from the top of the word, any other from `n` places below it. -/
theorem getLsbD_rotl (x : Word) {n i : Nat} (hn : n ≤ 31) (hi : i < 32) :
    (rotl x n).getLsbD i = x.getLsbD ((i + 32 - n) % 32) := by
  rw [rotl_eq_rotateLeft x n hn, BitVec.getLsbD_rotateLeft, Nat.mod_eq_of_lt (Nat.lt_succ_of_le hn)]
  by_cases hwrap : i < n
  · have hsrc : (i + 32 - n) % 32 = 32 - n + i := by omega
    simp [hwrap, hsrc]
  · have hsrc : (i + 32 - n) % 32 = i - n := by omega
    simp [hwrap, hsrc, hi]

/-- R86: one of the top `n` bits comes from the bottom of the word, any other from `n` places above it. -/
theorem getLsbD_rotr (x : Word) {n i : Nat} (hn : n ≤ 31) (hi : i < 32) :
    (rotr x n).getLsbD i = x.getLsbD ((i + n) % 32) := by
  rw [rotr_eq_rotateRight x n hn, BitVec.getLsbD_rotateRight, Nat.mod_eq_of_lt (Nat.lt_succ_of_le hn)]
  by_cases hstay : i < 32 - n
  · have hsrc : (i + n) % 32 = n + i := by omega
    simp [hstay, hsrc]
  · have hsrc : (i + n) % 32 = i - (32 - n) := by omega
    simp [hstay, hsrc, hi]

theorem rotr_rotl (x : Word) {n : Nat} (hn : n ≤ 31) : rotr (rotl x n) n = x := by
  apply BitVec.eq_of_getLsbD_eq
  intro i hi
  rw [getLsbD_rotr _ hn hi, getLsbD_rotl _ hn (Nat.mod_lt _ (by decide))]
  congr 1
  omega

theorem rotl_rotr (x : Word) {n : Nat} (hn : n ≤ 31) : rotl (rotr x n) n = x := by
  apply BitVec.eq_of_getLsbD_eq
  intro i hi
  rw [getLsbD_rotl _ hn hi, getLsbD_rotr _ hn (Nat.mod_lt _ (by decide))]
  congr 1
  omega

/-- Settles O39: where each rotation takes a bit from; the two moves of a bit cancel modulo 32. -/
theorem rotationsMoveBitsAround : Obligations.RotationsMoveBitsAround := by
  intro x n hn
  exact ⟨fun _ hi => ⟨getLsbD_rotl x hn hi, getLsbD_rotr x hn hi⟩, rotr_rotl x hn, rotl_rotr x hn⟩

end Sys2Proof.Machine
end

section
/-! PROOFS. The converter (41_converter.md R100 to R104): the bytes of a word, the word of a chunk, and the two round
trips. -/

namespace Sys2Proof.Machine

/-! ### W2B -/

@[simp] theorem w2b_length (ws : List Word) : (w2b ws).length = 4 * ws.length := by
  induction ws with
  | nil => rfl
  | cons w ws ih => rw [w2b_cons, List.length_append, wordBytes_length, ih, List.length_cons]; omega

theorem wordBytes_getElem? (w : Word) {t : Nat} (ht : t < 4) : (wordBytes w)[t]? = some (byteOfWord w t) := by
  match t, ht with
  | 0, _ | 1, _ | 2, _ | 3, _ => rfl

theorem w2b_getElem? (ws : List Word) {q t : Nat} (hq : q < ws.length) (ht : t < 4) :
    (w2b ws)[4 * q + t]? = some (byteOfWord ws[q] t) := by
  induction ws generalizing q with
  | nil => exact absurd hq (Nat.not_lt_zero q)
  | cons w ws ih =>
    rw [w2b_cons]
    cases q with
    | zero => rw [List.getElem?_append_left (by simpa using ht)]; simpa using wordBytes_getElem? w ht
    | succ q =>
      have hskip : 4 * (q + 1) + t - (wordBytes w).length = 4 * q + t := by rw [wordBytes_length]; omega
      rw [List.getElem?_append_right (by rw [wordBytes_length]; omega), hskip]
      exact ih (Nat.lt_of_succ_lt_succ hq)

/-- Settles O29: four bytes for each word, and byte `t` of word `q` stands behind the `4q` bytes before it. -/
theorem wordsToBytesByFormula : Obligations.WordsToBytesByFormula := fun ws =>
  ⟨w2b_length ws, fun _ hq _ ht => w2b_getElem? ws hq ht⟩

/-! ### The word of one chunk -/

theorem chunkWord_zeros_append (k : Nat) (chunk : List Byte) :
    chunkWord (List.replicate k 0 ++ chunk) = chunkWord chunk := by
  induction k with
  | zero => rfl
  | succ k ih => rw [List.replicate_succ, List.cons_append, chunkWord_zero_cons, ih]

/-- The bytes of the word of a chunk are the chunk, behind the zero bytes a partial chunk lacks (R102, R104). -/
theorem wordBytes_chunkWord_padded {chunk : List Byte} (hlen : chunk.length ≤ 4) :
    wordBytes (chunkWord chunk) = List.replicate (4 - chunk.length) 0 ++ chunk := by
  have hfull : (List.replicate (4 - chunk.length) 0 ++ chunk).length = 4 := by simp; omega
  rw [← chunkWord_zeros_append (4 - chunk.length) chunk]
  obtain ⟨b0, b1, b2, b3, hbytes⟩ := List.length_eq_four.1 hfull
  rw [hbytes, wordBytes_chunkWord]

/-- A word is the number whose digits to base 256 are its bytes. -/
theorem ofDigits_wordBytes (w : Word) : Nat.ofDigits 256 ((wordBytes w).map BitVec.toNat) = w.toNat := by
  rw [toNat_eq_bytes w]
  simp only [wordBytes, List.map_cons, List.map_nil, Nat.ofDigits_cons, Nat.ofDigits_nil]
  omega

/-- The formula of R102: the zero bytes in front are digits 0, which multiply the rest by a power of 256. -/
theorem chunkWord_toNat {chunk : List Byte} (hlen : chunk.length ≤ 4) :
    (chunkWord chunk).toNat = Nat.ofDigits 256 (chunk.map BitVec.toNat) * 256 ^ (4 - chunk.length) := by
  rw [← ofDigits_wordBytes, wordBytes_chunkWord_padded hlen, List.map_append, List.map_replicate]
  simp [Nat.ofDigits_append, Nat.mul_comm]

/-! ### B2W -/

theorem b2w_getElem (bs : List Byte) (q : Nat) (hq : q < (b2w bs).length) :
    (b2w bs)[q] = chunkWord ((bs.drop (4 * q)).take 4) := by
  induction q generalizing bs with
  | zero =>
    have hne : bs ≠ [] := by rintro rfl; exact absurd hq (Nat.not_lt_zero 0)
    simp [b2w_take_drop bs hne]
  | succ q ih =>
    have hne : bs ≠ [] := by rintro rfl; exact absurd hq (Nat.not_lt_zero _)
    simp only [b2w_take_drop bs hne, List.length_cons] at hq
    simp only [b2w_take_drop bs hne, List.getElem_cons_succ]
    rw [ih (bs.drop 4) (Nat.lt_of_succ_lt_succ hq), List.drop_drop, Nat.mul_succ, Nat.add_comm]

/-- Settles O28: word `q` is the word of chunk `q`, whose value is R102's formula. -/
theorem bytesToWordsByFormula : Obligations.BytesToWordsByFormula := by
  intro bs
  refine ⟨b2w_length bs, fun q hq => ?_⟩
  rw [b2w_getElem bs q hq, chunkWord_toNat (List.length_take_le 4 _)]

/-! ### The round trips -/

theorem b2w_w2b (ws : List Word) : b2w (w2b ws) = ws := by
  induction ws with
  | nil => rfl
  | cons w ws ih =>
    calc b2w (w2b (w :: ws)) = b2w (wordBytes w ++ w2b ws) := by rw [w2b_cons]
      _ = chunkWord (wordBytes w) :: b2w (w2b ws) := b2w_cons4 _ _ _ _ _
      _ = w :: ws := by rw [chunkWord_wordBytes, ih]

/-- Bytes that are whole chunks survive the round trip. -/
theorem w2b_b2w_whole {n : Nat} {whole : List Byte} (hlen : whole.length = 4 * n) : w2b (b2w whole) = whole := by
  induction n generalizing whole with
  | zero => rw [List.length_eq_zero_iff.1 hlen]; rfl
  | succ n ih =>
    have hne : whole ≠ [] := by rintro rfl; simp at hlen
    have htake : (whole.take 4).length = 4 := by simp; omega
    rw [b2w_take_drop whole hne, w2b_cons, wordBytes_chunkWord_padded (List.length_take_le 4 _), htake,
      ih (by simp; omega)]
    exact List.take_append_drop 4 whole

theorem w2b_b2w_part {part : List Byte} (hne : part ≠ []) (hlen : part.length < 4) :
    w2b (b2w part) = List.replicate (4 - part.length) 0 ++ part := by
  rw [b2w_short part hne hlen, w2b_cons, w2b_nil, List.append_nil, wordBytes_chunkWord_padded hlen.le]

theorem w2b_b2w_whole_append {whole part : List Byte} (hwhole : whole.length % 4 = 0) (hpart : part.length < 4) :
    w2b (b2w (whole ++ part)) =
      if part = [] then whole else whole ++ List.replicate (4 - part.length) 0 ++ part := by
  have hlen : whole.length = 4 * (whole.length / 4) := by omega
  rw [b2w_append _ whole part hlen, w2b_append, w2b_b2w_whole hlen]
  split
  case isTrue hnil => rw [hnil, b2w_nil, w2b_nil, List.append_nil]
  case isFalse hne => rw [w2b_b2w_part hne hpart, List.append_assoc]

/-- Settles O30: the padded sequence is what the round trip makes of the bytes, so by the round trip of words it
converts to the same words. -/
theorem conversionRoundTrips : Obligations.ConversionRoundTrips := by
  refine ⟨b2w_w2b, fun whole part hwhole hpart => ?_⟩
  have hbytes := w2b_b2w_whole_append hwhole hpart
  refine ⟨hbytes, fun hne => ?_⟩
  rw [if_neg hne] at hbytes
  rw [← hbytes, b2w_w2b]

end Sys2Proof.Machine
end

section
/-! PROOFS. The block data commands (41_converter.md R106 to R114), their words, and the sequences of them a host
issues. -/

namespace Sys2Proof

/-- An opcode over an operand field of two parts is the three parts in a row; the two vectors have equal widths, but not
by the same sum. -/
theorem toNat_opcode_append_parts {n k : Nat} (op : BitVec 8) (high : BitVec n) (low : BitVec k) :
    (op ++ (high ++ low)).toNat = (op ++ high ++ low).toNat := by
  rw [BitVec.append_assoc, BitVec.toNat_cast]

theorem encode_bpush (b : Byte) : encode (.bpush b) = 0x21#8 ++ 0#24 ++ b :=
  BitVec.eq_of_toNat_eq (toNat_opcode_append_parts 0x21 (0 : BitVec 24) b)

theorem encode_rdb (k : BitVec 3) : encode (.rdb k) = 0x23#8 ++ 0#29 ++ k :=
  BitVec.eq_of_toNat_eq (toNat_opcode_append_parts 0x23 (0 : BitVec 29) k)

end Sys2Proof

namespace Sys2Proof.Machine

/-! ### One command -/

/-- Settles O31: BCLR is the clearing of the buffer. -/
theorem bclrEmptiesTheBuffer : Obligations.BclrEmptiesTheBuffer := ⟨rfl, exec_bclr⟩

theorem State.pushBlock_room (s : State) (b : Byte) (hroom : s.blen.toNat < 8) :
    s.pushBlock b = { s with bb := s.bb.set s.blen.toNat b hroom, blen := s.blen + 1 } := by
  have hbb : s.bb.setIfInBounds s.blen.toNat b = s.bb.set s.blen.toNat b hroom := by
    apply Vector.ext
    intro i hi
    rw [Vector.getElem_setIfInBounds, Vector.getElem_set]
  rw [State.pushBlock, hbb]

theorem State.blen_ne_eight {s : State} (hroom : s.blen.toNat < 8) : s.blen ≠ 8 := by
  intro hfull
  simp [hfull] at hroom

/-- Settles O32: BPUSH appends while there is room, and at 8 bytes takes E_BOVF. -/
theorem bpushStoresOrOverflows : Obligations.BpushStoresOrOverflows := by
  refine ⟨encode_bpush, fun s b => ⟨fun hroom => ?_, fun hfull => ?_⟩⟩
  · rw [exec_bpush_room b s (State.blen_ne_eight hroom), s.pushBlock_room b hroom]
    rfl
  · exact exec_bpush_full b s (BitVec.eq_of_toNat_eq hfull)

/-- Settles O33: PACK writes the two words of the packed block and clears the buffer. -/
theorem packConvertsAndEmpties : Obligations.PackConvertsAndEmpties :=
  ⟨rfl, fun s => ⟨_, _, exec_pack s, rfl, rfl⟩⟩

/-- Byte `k` of the block is byte `k mod 4` of `X[k div 4]` (R109). -/
theorem State.blockByte_eq (s : State) (k : BitVec 3) :
    s.blockByte k = byteOfWord (if k.toNat / 4 = 0 then s.x0 else s.x1) (k.toNat % 4) := by
  have hq : k.toNat / 4 < [s.x0, s.x1].length := by
    have := k.isLt
    simp; omega
  have hbyte := w2b_getElem? [s.x0, s.x1] hq (Nat.mod_lt k.toNat (by decide : 4 > 0))
  rw [Nat.div_add_mod] at hbyte
  rw [State.blockByte, List.getD_eq_getElem?_getD, hbyte, Option.getD_some, List.getElem_cons]
  split <;> simp

/-- Settles O34: RDB answers its byte of the block, which is a byte of one block register. -/
theorem rdbReturnsByteOfBlock : Obligations.RdbReturnsByteOfBlock := by
  refine ⟨encode_rdb, fun s k => ?_⟩
  rw [exec_rdb, s.blockByte_eq k]
  rfl

/-- Settles O35: LDX0 and LDX1 write the block register their opcode names. -/
theorem loadsWriteOneBlockRegister : Obligations.LoadsWriteOneBlockRegister :=
  ⟨fun _ => ⟨rfl, rfl⟩, fun s v => ⟨exec_ldx0 v s, exec_ldx1 v s⟩⟩

/-- Settles O36: RDX0 and RDX1 answer the block register their opcode names. -/
theorem readsReturnTheBlockRegisters : Obligations.ReadsReturnTheBlockRegisters :=
  ⟨rfl, rfl, fun s => ⟨exec_rdx0 s, exec_rdx1 s⟩⟩

/-! ### The sequences that load and read the block (30_encoding.md R71) -/

theorem issueAll_ldblk (w0 w1 : Word) (s : State) :
    issueAll (ldblk w0 w1) s = .next ({ s with x0 := w0, x1 := w1, rsp := some (.ok 0) }, [.ok 0, .ok 0]) :=
  issueAll_cons _ _ _ _ _ _ (exec_ldx0 w0 s) (issueAll_singleton _ _ _ (exec_ldx1 w1 _))

theorem issueAll_rdblk (s : State) :
    issueAll rdblk s = .next (s.answer s.x1, [.ok s.x0, .ok s.x1]) :=
  issueAll_cons _ _ _ _ _ _ (exec_rdx0 s) (issueAll_singleton _ _ _ (exec_rdx1 _))

theorem issueAll_rdbytes (s : State) : ∃ t,
    issueAll rdbytes s = .next (t, (w2b [s.x0, s.x1]).map fun b => .ok (byteData b)) ∧ t = { s with rsp := t.rsp } :=
  issueAll_rdb [0, 1, 2, 3, 4, 5, 6, 7] s

/-- While there is room, a row of BPUSH appends its bytes to those buffered and changes nothing else. -/
theorem issueAll_bpush (bs : List Byte) (s : State) (hroom : s.blen.toNat + bs.length ≤ 8) : ∃ t,
    issueAll (bs.map .bpush) s = .next (t, List.replicate bs.length (.ok 0)) ∧
      t.blockBytes = s.blockBytes ++ bs ∧ t = { s with bb := t.bb, blen := t.blen, rsp := t.rsp } := by
  induction bs generalizing s with
  | nil => exact ⟨s, rfl, (List.append_nil _).symm, rfl⟩
  | cons b bs ih =>
    rw [List.length_cons] at hroom
    have hlt : s.blen.toNat < 8 := by omega
    have hblen : ((s.pushBlock b).answer 0).blen.toNat = s.blen.toNat + 1 := s.pushBlock_blen_toNat b hlt
    have hbytes : ((s.pushBlock b).answer 0).blockBytes = s.blockBytes ++ [b] := s.blockBytes_pushBlock b hlt
    obtain ⟨t, hrun, ht, hframe⟩ := ih ((s.pushBlock b).answer 0) (by omega)
    refine ⟨t, issueAll_cons _ _ _ _ _ _ (exec_bpush_room b s (State.blen_ne_eight hlt)) hrun, ?_, hframe⟩
    rw [ht, hbytes, List.append_assoc, List.singleton_append]

/-- BLOAD of up to 8 bytes puts the two words of their conversion into the block registers. -/
theorem issueAll_bload {bs : List Byte} (hlen : bs.length ≤ 8) (s : State) : ∃ bb,
    issueAll (bload bs) s = .next ({ s with
      x0 := (b2w bs).getD 0 0, x1 := (b2w bs).getD 1 0, bb := bb, blen := 0, rsp := some (.ok 0) },
      List.replicate (bs.length + 2) (.ok 0)) := by
  obtain ⟨t, hpush, hbytes, hframe⟩ := issueAll_bpush bs (s.clearBlock.answer 0) (by simpa using hlen)
  have hheld : t.blockBytes = bs := hbytes.trans (congrArg (· ++ bs) s.blockBytes_clearBlock)
  have hpacked : (t.writeBlock (packBlock t.blockBytes)).clearBlock.answer 0 = { s with
      x0 := (b2w bs).getD 0 0, x1 := (b2w bs).getD 1 0, bb := t.bb, blen := 0, rsp := some (.ok 0) } := by
    rw [hheld, hframe]
    rfl
  have hpack := issueAll_singleton _ _ _ ((exec_pack t).trans (congrArg Host.Outcome.next hpacked))
  have hrun := issueAll_cons _ _ _ _ _ _ (exec_bclr s) (issueAll_append _ _ _ _ _ _ _ hpush hpack)
  refine ⟨t.bb, hrun.trans ?_⟩
  rw [List.replicate_succ, List.replicate_succ']
  rfl

/-- Eight bytes are two whole chunks, so the words PACK forms of them have them as their bytes. -/
theorem w2b_packed_words {bs : List Byte} (hlen : bs.length = 8) : w2b [(b2w bs).getD 0 0, (b2w bs).getD 1 0] = bs := by
  have htwo : (b2w bs).length = 2 := by rw [b2w_length, hlen]
  obtain ⟨w0, w1, hwords⟩ := List.length_eq_two.1 htwo
  have hround : w2b (b2w bs) = bs := w2b_b2w_whole (n := 2) hlen
  rw [hwords] at hround ⊢
  exact hround

/-- Settles O37: the bytes and the words read are those of the two block registers, which hold the words loaded or the
words of the bytes pushed. -/
theorem wordAndByteViewsAgree : Obligations.WordAndByteViewsAgree := by
  refine ⟨fun s w0 w1 => ?_, fun s bs hlen => ?_⟩
  · obtain ⟨t, hread, -⟩ := issueAll_rdbytes { s with x0 := w0, x1 := w1, rsp := some (.ok 0) }
    exact ⟨t, issueAll_append _ _ _ _ _ _ _ (issueAll_ldblk w0 w1 s) hread⟩
  · obtain ⟨bb, hload⟩ := issueAll_bload hlen s
    obtain ⟨t, hbytes, hframe⟩ := issueAll_rdbytes { s with
      x0 := (b2w bs).getD 0 0, x1 := (b2w bs).getD 1 0, bb := bb, blen := 0, rsp := some (.ok 0) }
    have hwords := issueAll_rdblk t
    rw [show t.x0 = (b2w bs).getD 0 0 by rw [hframe], show t.x1 = (b2w bs).getD 1 0 by rw [hframe]] at hwords
    exact ⟨_, issueAll_append _ _ _ _ _ _ _ (issueAll_append _ _ _ _ _ _ _ hload hbytes) hwords, w2b_packed_words⟩

end Sys2Proof.Machine
end

section
/-! PROOFS. The key schedule (42_key_schedule.md R124 to R129): the seed in closed form, where the indices of the mix
stand, and the mix as two recurrences on words, one iteration after the other. -/

namespace Sys2Proof.Machine

/-! ### The seed (R124) -/

/-- Word `i` of the seed, in closed form. -/
def seedWord (i : Nat) : Word := 0xB7E15163 + BitVec.ofNat 32 i * 0x9E3779B9

theorem seedWord_succ (i : Nat) : seedWord (i + 1) = seedWord i + 0x9E3779B9 := by
  rw [seedWord, seedWord, BitVec.ofNat_add, BitVec.add_mul, BitVec.add_assoc]
  rfl

theorem seedFrom_seedWord_getElem? {n k i : Nat} (hi : i < n) :
    (seedFrom n (seedWord k))[i]? = some (seedWord (k + i)) := by
  induction n generalizing k i with
  | zero => omega
  | succ n ih =>
    have hnext : seedWord k + Config.magicQ = seedWord (k + 1) := (seedWord_succ k).symm
    rw [seedFrom_succ, hnext]
    cases i with
    | zero => rfl
    | succ i => rw [List.getElem?_cons_succ, ih (Nat.lt_of_succ_lt_succ hi), Nat.add_right_comm, Nat.add_assoc]

theorem seed_getElem? {size i : Nat} (hi : i < size) : (seed size)[i]? = some (seedWord i) := by
  have hword := seedFrom_seedWord_getElem? (k := 0) hi
  rwa [Nat.zero_add] at hword

theorem seed_length (size : Nat) : (seed size).length = size := seedFrom_length size _

/-- Settles O21: each word of the seed is Q more than the one before it, from P on. -/
theorem seedIsPPlusMultiplesOfQ : Obligations.SeedIsPPlusMultiplesOfQ := fun size =>
  ⟨seed_length size, fun _ => seed_getElem?⟩

/-! ### The indices, and the two words an iteration writes (R129) -/

section
variable (key : List Byte) (size k : Nat)

theorem mixRun_mixStart_t_length : (mixRun k (mixStart key size)).t.length = size := by
  rw [mixRun_t_length, mixStart_t, seed_length]

theorem mixRun_mixStart_l_length : (mixRun k (mixStart key size)).l.length = (b2w key).length := by
  rw [mixRun_l_length, mixStart_l]

theorem mixRun_mixStart_i : (mixRun k (mixStart key size)).i = k % size := by
  induction k with
  | zero => exact (Nat.zero_mod size).symm
  | succ k ih => rw [mixRun_succ, mixStep_i, mixRun_mixStart_t_length, ih, Nat.mod_add_mod]

theorem mixRun_mixStart_j (hkey : 0 < (b2w key).length) :
    (mixRun k (mixStart key size)).j = k % (b2w key).length := by
  induction k with
  | zero => exact (Nat.zero_mod _).symm
  | succ k ih =>
    have hl := mixRun_mixStart_l_length key size k
    rw [mixRun_succ, mixStep_j _ (hl ▸ hkey), hl, ih, Nat.mod_add_mod]

theorem mod_size_lt_t_length (hsize : 0 < size) : k % size < (mixRun k (mixStart key size)).t.length := by
  rw [mixRun_mixStart_t_length]
  exact Nat.mod_lt k hsize

theorem mod_keyWords_lt_l_length (hkey : 0 < (b2w key).length) :
    k % (b2w key).length < (mixRun k (mixStart key size)).l.length := by
  rw [mixRun_mixStart_l_length]
  exact Nat.mod_lt k hkey

theorem mixRun_mixStart_succ_t : (mixRun (k + 1) (mixStart key size)).t =
    (mixRun k (mixStart key size)).t.set (k % size) (mixRun (k + 1) (mixStart key size)).a := by
  rw [mixRun_succ, mixStep_t, mixRun_mixStart_i]

theorem mixRun_mixStart_succ_l (hkey : 0 < (b2w key).length) : (mixRun (k + 1) (mixStart key size)).l =
    (mixRun k (mixStart key size)).l.set (k % (b2w key).length) (mixRun (k + 1) (mixStart key size)).b := by
  rw [mixRun_succ, mixStep_l _ (mixRun_mixStart_l_length key size k ▸ hkey), mixRun_mixStart_j key size k hkey]

theorem mixRun_mixStart_t_getElem?_last (hsize : 0 < size) :
    (mixRun (k + 1) (mixStart key size)).t[k % size]? = some (mixRun (k + 1) (mixStart key size)).a := by
  rw [mixRun_mixStart_succ_t, List.getElem?_set_self (mod_size_lt_t_length key size k hsize)]

theorem mixRun_mixStart_l_getElem?_last (hkey : 0 < (b2w key).length) :
    (mixRun (k + 1) (mixStart key size)).l[k % (b2w key).length]? = some (mixRun (k + 1) (mixStart key size)).b := by
  rw [mixRun_mixStart_succ_l key size k hkey, List.getElem?_set_self (mod_keyWords_lt_l_length key size k hkey)]

end

theorem keySchedule_eq_mixRun (key : List Byte) (size : Nat) :
    keySchedule key size = mixRun (3 * max size (b2w key).length) (mixStart key size) := rfl

/-- Settles O23: each index goes round its array once per pass, and the last iteration wrote the last `a` and `b`. -/
theorem mixIndicesAndFinalWords : Obligations.MixIndicesAndFinalWords := by
  intro key size hsize
  refine ⟨fun k => ⟨mixRun_mixStart_i key size k, mixRun_mixStart_j key size k⟩, ?_⟩
  obtain ⟨n, hn⟩ : ∃ n, 3 * max size (b2w key).length = n + 1 :=
    Nat.exists_eq_add_one.2 (by have := Nat.le_max_left size (b2w key).length; omega)
  rw [keySchedule_eq_mixRun, hn]
  exact ⟨mixRun_mixStart_t_getElem?_last key size n hsize, mixRun_mixStart_l_getElem?_last key size n⟩

/-! ### The mix as recurrences (R125) -/

theorem entry_eq_getD {ws : List Word} {i : Nat} (h : i < ws.length) (d : Word) : entry ws i = ws.getD i d := by
  rw [entry_of_lt ws i h, List.getD_eq_getElem ws d h]

theorem getD_set {ws : List Word} {i : Nat} (h : i < ws.length) (v d : Word) (j : Nat) :
    (ws.set i v).getD j d = if j = i then v else ws.getD j d := by
  rw [List.getD_eq_getElem?_getD, List.getD_eq_getElem?_getD]
  rcases eq_or_ne j i with rfl | hne
  · rw [if_pos rfl, List.getElem?_set_self h, Option.getD_some]
  · rw [if_neg hne, List.getElem?_set_ne hne.symm]

/-- Table word `i` after `k` iterations; past the end of the table, the word the seed would have there. -/
def tableWord (key : List Byte) (size k i : Nat) : Word := (mixRun k (mixStart key size)).t.getD i (seedWord i)

/-- Key word `j` after `k` iterations. -/
def keyWord (key : List Byte) (size k j : Nat) : Word := (mixRun k (mixStart key size)).l.getD j 0

section
variable (key : List Byte) (size k : Nat)

theorem tableWord_zero (i : Nat) : tableWord key size 0 i = seedWord i := by
  change (seed size).getD i (seedWord i) = seedWord i
  rw [List.getD_eq_getElem?_getD]
  rcases Nat.lt_or_ge i size with hlt | hge
  · rw [seed_getElem? hlt, Option.getD_some]
  · rw [List.getElem?_eq_none (by rwa [seed_length]), Option.getD_none]

theorem mixRun_mixStart_succ_a (hsize : 0 < size) : (mixRun (k + 1) (mixStart key size)).a =
    rotl (tableWord key size k (k % size) + (mixRun k (mixStart key size)).a + (mixRun k (mixStart key size)).b) 3 := by
  rw [mixRun_succ, mixStep_a, mixRun_mixStart_i, entry_eq_getD (mod_size_lt_t_length key size k hsize), tableWord]

theorem tableWord_succ (hsize : 0 < size) (i : Nat) : tableWord key size (k + 1) i =
    if i = k % size then (mixRun (k + 1) (mixStart key size)).a else tableWord key size k i := by
  rw [tableWord, mixRun_mixStart_succ_t, getD_set (mod_size_lt_t_length key size k hsize), tableWord]

theorem mixRun_mixStart_succ_b (hkey : 0 < (b2w key).length) : (mixRun (k + 1) (mixStart key size)).b =
    rotl (keyWord key size k (k % (b2w key).length) + (mixRun (k + 1) (mixStart key size)).a
        + (mixRun k (mixStart key size)).b)
      (((mixRun (k + 1) (mixStart key size)).a + (mixRun k (mixStart key size)).b).toNat % 32) := by
  rw [mixRun_succ, mixStep_b _ (mixRun_mixStart_l_length key size k ▸ hkey), mixRun_mixStart_j key size k hkey,
    entry_eq_getD (mod_keyWords_lt_l_length key size k hkey) 0, keyWord, rotAmount_eq]

theorem keyWord_succ (hkey : 0 < (b2w key).length) (j : Nat) : keyWord key size (k + 1) j =
    if j = k % (b2w key).length then (mixRun (k + 1) (mixStart key size)).b else keyWord key size k j := by
  rw [keyWord, mixRun_mixStart_succ_l key size k hkey, getD_set (mod_keyWords_lt_l_length key size k hkey), keyWord]

theorem mixRun_mixStart_succ_b_no_key (hkey : (b2w key).length = 0) :
    (mixRun (k + 1) (mixStart key size)).b = (mixRun k (mixStart key size)).b := by
  have hl : (mixRun k (mixStart key size)).l = [] :=
    List.eq_nil_of_length_eq_zero ((mixRun_mixStart_l_length key size k).trans hkey)
  rw [mixRun_succ]
  exact (mixStep_no_key _ hl).1

theorem mixRun_mixStart_t_eq_map : (mixRun k (mixStart key size)).t = (List.range size).map (tableWord key size k) := by
  apply List.ext_getElem
  · rw [mixRun_mixStart_t_length, List.length_map, List.length_range]
  · intro i hi _
    simp only [List.getElem_map, List.getElem_range, tableWord, List.getD_eq_getElem _ _ hi]

theorem mixRun_mixStart_l_eq_map :
    (mixRun k (mixStart key size)).l = (List.range (b2w key).length).map (keyWord key size k) := by
  apply List.ext_getElem
  · rw [mixRun_mixStart_l_length, List.length_map, List.length_range]
  · intro j hj _
    simp only [List.getElem_map, List.getElem_range, keyWord, List.getD_eq_getElem _ _ hj]

end

/-- Settles O22: the running words and the two arrays of the mix itself satisfy its update lines. -/
theorem expandIsTheInterleavedMix : Obligations.ExpandIsTheInterleavedMix := by
  intro key size hsize
  refine ⟨fun k => (mixRun k (mixStart key size)).a, fun k => (mixRun k (mixStart key size)).b, tableWord key size,
    keyWord key size, mixStart_a key size, mixStart_b key size, ?seed0, ?seedNext, ?keyWords, ?update, ?table,
    ?byProduct⟩
  case seed0 => exact tableWord_zero key size 0
  case seedNext => intro i; rw [tableWord_zero, tableWord_zero, seedWord_succ]
  case keyWords => exact fun j hj => List.getD_eq_getElem _ _ hj
  case update =>
    intro k _
    exact ⟨mixRun_mixStart_succ_a key size k hsize, tableWord_succ key size k hsize,
      fun hkey => ⟨mixRun_mixStart_succ_b key size k hkey, keyWord_succ key size k hkey⟩,
      mixRun_mixStart_succ_b_no_key key size k⟩
  case table => exact mixRun_mixStart_t_eq_map key size _
  case byProduct => exact mixRun_mixStart_l_eq_map key size _

end Sys2Proof.Machine
end

section
/-! PROOFS. The key commands (42_key_schedule.md R120, R121, R127), and which commands end a Cipher Instance or make one
(R130, R131). -/

namespace Sys2Proof

theorem encode_kpush (b : Byte) : encode (.kpush b) = 0x11#8 ++ 0#24 ++ b :=
  BitVec.eq_of_toNat_eq (toNat_opcode_append_parts 0x11 (0 : BitVec 24) b)

end Sys2Proof

namespace Sys2Proof.Machine

/-! ### KCLR and KPUSH -/

/-- Settles O17: KCLR is the clearing of the key buffer. -/
theorem kclrEmptiesTheKey : Obligations.KclrEmptiesTheKey := ⟨rfl, exec_kclr⟩

theorem State.kb_setIfInBounds (s : State) (b : Byte) (hroom : s.klen.toNat < 255) :
    s.kb.setIfInBounds s.klen.toNat b = s.kb.set s.klen.toNat b hroom := by
  apply Vector.ext
  intro i hi
  rw [Vector.getElem_setIfInBounds, Vector.getElem_set]

/-- Settles O18: the three cases of a push, each answered with success. -/
theorem kpushStoresCountsOrDrops : Obligations.KpushStoresCountsOrDrops := by
  refine ⟨encode_kpush, fun s b => ⟨fun hroom => ?_, fun hfull => ?_, fun hover => ?_⟩⟩
  · rw [exec_kpush, s.pushKey_room b hroom, s.kb_setIfInBounds b (Nat.lt_succ_of_le hroom)]
    rfl
  · rw [exec_kpush, s.pushKey_full b hfull]
    rfl
  · rw [exec_kpush, s.pushKey_over b hover.ge]
    rfl

/-! ### KEXP -/

theorem flagData_decide (p : Prop) [Decidable p] : flagData (decide p) = if p then 1 else 0 := by
  by_cases hp : p
  · rw [decide_eq_true hp, if_pos hp]; rfl
  · rw [decide_eq_false hp, if_neg hp]; rfl

/-- `LC` after a KEXP that constructs a Cipher Instance (R123): the key words of at most 255 bytes fit in `L`. -/
theorem State.construct_lc_toNat {s : State} (hklen : s.klen.toNat ≤ 255) :
    s.construct.lc.toNat = (s.klen.toNat + 3) / 4 := by
  rw [State.construct_lc, keySchedule_l_length, b2w_length, State.keyMaterial_length, BitVec.toNat_ofNat]
  omega

/-- The entries of `L` up to the number of words are the words, the others are kept (R123). -/
theorem fillKeyWords_getElem_eq_ite (l : Vector Word 64) (ws : List Word) (j : Fin 64) :
    (fillKeyWords l ws)[j] = if j.val < ws.length then ws.getD j.val 0 else l[j] := by
  rw [Fin.getElem_fin, fillKeyWords_getElem l ws j.val j.isLt]
  split
  next hlt => rw [List.getElem?_eq_getElem hlt, Option.getD_some, List.getD_eq_getElem ws 0 hlt]
  next hge => rw [List.getElem?_eq_none (Nat.le_of_not_lt hge), Option.getD_none, Fin.getElem_fin]

/-- The length of the mixed key words is what `LC` says. -/
theorem State.keySchedule_l_length_eq_lc {s : State} (hklen : s.klen.toNat ≤ 255) :
    (keySchedule s.keyMaterial s.cfg.tableWords.toNat).l.length = s.construct.lc.toNat := by
  rw [State.construct_lc_toNat hklen, keySchedule_l_length, b2w_length, State.keyMaterial_length,
    Nat.min_eq_left hklen]

/-- A KEXP that constructs a Cipher Instance leaves everything else alone (R127). -/
theorem State.construct_frame {s t : State} {d : Word} (h : t = s.construct.leaveMixWork.answer d) :
    t = { s with
      t := t.t, l := t.l, lc := t.lc, kv := true, ek := decide (s.klen = 0), rsp := t.rsp, ma := t.ma, mb := t.mb,
      mi := t.mi, mj := t.mj, mn := t.mn, draws := t.draws } := by
  rw [h]
  simp only [State.answer, State.leaveMixWork, State.construct, State.adopt]

theorem State.construct_l_getElem {s : State} (hklen : s.klen.toNat ≤ 255) (j : Fin 64) :
    s.construct.l[j] = if j.val < s.construct.lc.toNat
      then (keySchedule s.keyMaterial s.cfg.tableWords.toNat).l.getD j.val 0 else s.l[j] := by
  rw [State.construct_l, fillKeyWords_getElem_eq_ite, State.keySchedule_l_length_eq_lc hklen]

/-- Settles O20: the three outcomes of the checks. -/
theorem kexpValidatesThenExpands : Obligations.KexpValidatesThenExpands := by
  refine ⟨rfl, fun s => ?_⟩
  rcases s.keyCheck_cases with ⟨hlong, hcheck⟩ | ⟨hklen, hsize, hcheck⟩ | ⟨hklen, hsize, hcheck⟩
  · rw [if_pos hlong]
    exact exec_kexp_error s .keyLen hcheck
  · rw [if_neg (Nat.not_lt.2 hklen), if_pos (.inr hsize)]
    exact exec_kexp_error s .table hcheck
  · rw [if_neg (Nat.not_lt.2 hklen), if_neg (by unfold Cfg.WellFormed at hsize; omega)]
    refine ⟨_, exec_kexp_construct s hcheck, s.construct_t, ?count, ?words, ?response, State.construct_frame rfl⟩
    case count => rw [State.answer_lc, State.leaveMixWork_lc, State.construct_lc_toNat hklen]
    case words =>
      rw [State.answer_l, State.answer_lc, State.leaveMixWork_l, State.leaveMixWork_lc]
      exact State.construct_l_getElem hklen
    case response => rw [State.answer_rsp, State.construct_ek, flagData_decide]

/-- What a KEXP that completes has done: it constructed a Cipher Instance, or ended one and raised the error
found. -/
theorem exec_kexp_cases {s t : State} (h : exec .kexp s = .next t) :
    (s.keyCheck = none ∧ t = s.construct.leaveMixWork.answer (flagData s.construct.ek)) ∨
    ∃ e, s.keyCheck = some e ∧ t = s.endInstance.raise e := by
  rcases hcheck : s.keyCheck with _ | e
  · exact .inl ⟨rfl, Host.Outcome.next.inj (h.symm.trans (exec_kexp_construct s hcheck))⟩
  · exact .inr ⟨e, rfl, Host.Outcome.next.inj (h.symm.trans (exec_kexp_error s e hcheck))⟩

/-- Settles O25: the checks read KLEN and the configuration, the construction also the key material. -/
theorem tableDependsOnKeyAndConfigurationOnly : Obligations.TableDependsOnKeyAndConfigurationOnly := by
  intro s₁ s₂ t₁ t₂ hcfg hklen hkey h₁ h₂
  have hcheck : s₁.keyCheck = s₂.keyCheck := by rw [State.keyCheck, State.keyCheck, hcfg, hklen]
  rcases h : s₂.keyCheck with _ | e
  · rw [exec_kexp_construct s₁ (hcheck.trans h)] at h₁
    rw [exec_kexp_construct s₂ h] at h₂
    cases h₁
    cases h₂
    simp [hcfg, hklen, hkey]
  · rw [exec_kexp_error s₁ e (hcheck.trans h)] at h₁
    rw [exec_kexp_error s₂ e h] at h₂
    cases h₁
    cases h₂
    simp

/-! ### Which commands end a Cipher Instance or make one (R131) -/

theorem State.respond_t (s : State) (r : Response) : (s.respond r).t = s.t := by
  cases r with
  | ok d => exact s.answer_t d
  | error e => exact s.raise_t e

theorem State.respond_kv (s : State) (r : Response) : (s.respond r).kv = s.kv := by
  cases r with
  | ok d => exact s.answer_kv d
  | error e => exact s.raise_kv e

/-- No command but KEXP and SRST touches `T` or `KV`. -/
theorem effectOf_keeps_instance {i : Instr} (s : State) (hkexp : i ≠ .kexp) (hsrst : i ≠ .srst) :
    (effectOf i s).t = s.t ∧ (effectOf i s).kv = s.kv := by
  cases i with
  | kexp => exact absurd rfl hkexp
  | srst => exact absurd rfl hsrst
  | kpush b => exact ⟨s.pushKey_t b, s.pushKey_kv b⟩
  | bpush b => rw [effectOf_bpush]; split <;> exact ⟨rfl, rfl⟩
  | ldx0 v => exact ⟨s.writeX_t 0 v, s.writeX_kv 0 v⟩
  | ldx1 v => exact ⟨s.writeX_t 1 v, s.writeX_kv 1 v⟩
  | enc => rw [effectOf_enc]; split <;> exact ⟨rfl, rfl⟩
  | dec => rw [effectOf_dec]; split <;> exact ⟨rfl, rfl⟩
  | _ => exact ⟨rfl, rfl⟩

/-- A KEXP from `s` passes its checks. -/
abbrev State.KexpPasses (s : State) : Prop := s.klen.toNat ≤ 255 ∧ s.cfg.WellFormed

/-- A KEXP from `s` fails a check. -/
abbrev State.KexpFails (s : State) : Prop := 255 < s.klen.toNat ∨ ¬ s.cfg.WellFormed

theorem State.kexpFails_iff (s : State) : s.KexpFails ↔ ¬ s.KexpPasses := by
  rw [not_and_or, Nat.not_le]

theorem State.keyCheck_eq_none_iff (s : State) : s.keyCheck = none ↔ s.KexpPasses := by
  rcases s.keyCheck_cases with ⟨hlong, hcheck⟩ | ⟨-, hsize, hcheck⟩ | ⟨hklen, hsize, hcheck⟩
  · exact iff_of_false (by simp [hcheck]) fun ⟨hklen, _⟩ => Nat.not_le.2 hlong hklen
  · exact iff_of_false (by simp [hcheck]) fun ⟨_, hw⟩ => hsize hw
  · exact iff_of_true hcheck ⟨hklen, hsize⟩

/-- What a command does to the Cipher Instance: a KEXP that passes makes one, SRST and a KEXP that fails leave `T` and
clear `KV`, every other command leaves both. -/
theorem exec_instance_cases {i : Instr} {s t : State} (h : exec i s = .next t) :
    (i = .kexp ∧ s.KexpPasses ∧ t.kv = true) ∨
    ((i = .srst ∨ i = .kexp ∧ s.KexpFails) ∧ t.t = s.t ∧ t.kv = false) ∨
    (i ≠ .kexp ∧ i ≠ .srst ∧ t.t = s.t ∧ t.kv = s.kv) := by
  by_cases hkexp : i = .kexp
  · subst hkexp
    rcases exec_kexp_cases h with ⟨hcheck, rfl⟩ | ⟨e, hcheck, rfl⟩
    · exact .inl ⟨rfl, s.keyCheck_eq_none_iff.1 hcheck, s.construct_kv⟩
    · have hfails : s.KexpFails := s.kexpFails_iff.2 fun hp => by simp [s.keyCheck_eq_none_iff.2 hp] at hcheck
      exact .inr (.inl ⟨.inr ⟨rfl, hfails⟩, s.endInstance.raise_t e, s.endInstance.raise_kv e⟩)
  · by_cases hsrst : i = .srst
    · subst hsrst
      cases h
      exact .inr (.inl ⟨.inl rfl, rfl, rfl⟩)
    · obtain ⟨ht, hkv⟩ := effectOf_keeps_instance s hkexp hsrst
      rw [eq_respond_of_exec h]
      exact .inr (.inr ⟨hkexp, hsrst, (State.respond_t _ _).trans ht, (State.respond_kv _ _).trans hkv⟩)

theorem exec_changes_table {i : Instr} {s t : State} (h : exec i s = .next t) (ht : t.t ≠ s.t) :
    i = .kexp ∧ s.KexpPasses := by
  rcases exec_instance_cases h with ⟨hi, hpass, -⟩ | ⟨-, hsame, -⟩ | ⟨-, -, hsame, -⟩
  · exact ⟨hi, hpass⟩
  · exact absurd hsame ht
  · exact absurd hsame ht

/-- The word of the input is KEXP's, since a legal word is the word of its command. -/
theorem step_changes_table {s t : State} (h : step s = .next t) (ht : t.t ≠ s.t) :
    ∃ rest, s.inbox = .command 0x1200000000 :: rest ∧ s.KexpPasses := by
  rcases step_cases s t h with ⟨-, rfl⟩ | ⟨rest, -, rfl⟩ | ⟨w, rest, i, hin, hd, hexec⟩ | ⟨w, rest, why, -, -, rfl⟩
  case inl => exact absurd rfl ht
  case inr.inl => exact absurd (State.hardReset_t _) ht
  case inr.inr.inl =>
    obtain ⟨rfl, hpass⟩ := exec_changes_table hexec ht
    have hword : 0x1200000000 = w := encode_of_decode hd
    exact ⟨rest, hword ▸ hin, hpass⟩
  case inr.inr.inr => exact absurd (State.raise_t _ _) ht

/-- Settles O26: each clause is read off what a command does to the Cipher Instance. -/
theorem onlyKexpMakesOrChangesAnInstance : Obligations.OnlyKexpMakesOrChangesAnInstance := by
  refine ⟨fun i s t h => ⟨exec_changes_table h, ?ends, ?makes, ?clears⟩, fun s t => step_changes_table,
    fun s rest hin => ⟨_, step_rst s rest hin, State.hardReset_t _, State.hardReset_kv _⟩⟩
  case ends =>
    intro hset hclear
    rcases exec_instance_cases h with ⟨-, -, hkv⟩ | ⟨hi, -, -⟩ | ⟨-, -, -, hkv⟩
    · simp [hclear] at hkv
    · exact hi
    · simp [hset, hclear] at hkv
  case makes =>
    intro hclear hset
    rcases exec_instance_cases h with ⟨hi, hpass, -⟩ | ⟨-, -, hkv⟩ | ⟨-, -, -, hkv⟩
    · exact ⟨hi, hpass⟩
    · simp [hset] at hkv
    · simp [hset, hclear] at hkv
  case clears =>
    intro hi
    rcases exec_instance_cases h with ⟨rfl, hpass, -⟩ | ⟨-, hkept⟩ | ⟨hkexp, hsrst, -, -⟩
    · rcases hi with hi | ⟨-, hfails⟩
      · nomatch hi
      · exact absurd hpass (s.kexpFails_iff.1 hfails)
    · exact hkept
    · rcases hi with hi | ⟨hi, -⟩
      · exact absurd hi hsrst
      · exact absurd hi hkexp

end Sys2Proof.Machine
end

section
/-! PROOFS. The round function (43_round_function.md R140 to R148): the half-rounds, the rounds and the two ciphers undo
each other, and so do the commands ENC and DEC; the words between the rounds. -/

namespace Sys2Proof.Machine

/-! ### One half-round (R144) -/

/-- The key comes off, the rotation turns back by the same companion, and the companion's bits cancel. -/
theorem hri_hrf (u v k : Word) : hri (hrf u v k) v k = u := by
  rw [hri, hrf, sub32_eq, add32_eq, BitVec.add_sub_cancel, rotr_rotl _ (rotAmount_le v), xor32_eq, xor32_eq,
    BitVec.xor_assoc, BitVec.xor_self, BitVec.xor_zero]

theorem hrf_hri (u v k : Word) : hrf (hri u v k) v k = u := by
  rw [hrf, hri, xor32_eq, xor32_eq, BitVec.xor_assoc, BitVec.xor_self, BitVec.xor_zero,
    rotl_rotr _ (rotAmount_le v), add32_eq, sub32_eq, BitVec.sub_add_cancel]

/-- Settles O40: a half-round is an exclusive or, a rotation and a sum, each undone by its inverse in turn. -/
theorem halfRoundsAreInverse : Obligations.HalfRoundsAreInverse := fun u v k => ⟨hri_hrf u v k, hrf_hri u v k⟩

/-! ### The rounds, and the two ciphers (R146) -/

/-- The second half-round is undone first, while its companion, the new `a`, still stands. -/
theorem decRound_encRound (t : List Word) (r : Nat) (x : Block) : decRound t r (encRound t r x) = x := by
  simp only [decRound, encRound, hri_hrf]

theorem encRound_decRound (t : List Word) (r : Nat) (x : Block) : encRound t r (decRound t r x) = x := by
  simp only [encRound, decRound, hrf_hri]

theorem decRounds_encRounds (t : List Word) (r : Nat) (x : Block) : decRounds t r (encRounds t r x) = x := by
  induction r with
  | zero => rfl
  | succ r ih => rw [encRounds_succ, decRounds_succ, decRound_encRound, ih]

theorem encRounds_decRounds (t : List Word) (r : Nat) (x : Block) : encRounds t r (decRounds t r x) = x := by
  induction r generalizing x with
  | zero => rfl
  | succ r ih => rw [decRounds_succ, encRounds_succ, ih, encRound_decRound]

theorem decrypt_encrypt (t : List Word) (rounds : Nat) (x : Block) : decrypt t rounds (encrypt t rounds x) = x := by
  simp only [decrypt, encrypt, decRounds_encRounds, sub32_eq, add32_eq, BitVec.add_sub_cancel]

theorem encrypt_decrypt (t : List Word) (rounds : Nat) (x : Block) : encrypt t rounds (decrypt t rounds x) = x := by
  simp only [encrypt, decrypt, add32_eq, sub32_eq, BitVec.sub_add_cancel]
  exact encRounds_decRounds t rounds x

/-- Settles O44: the closed form of both ciphers with no round to run. -/
theorem zeroRoundsOnlyAddTheFirstKeys : Obligations.ZeroRoundsOnlyAddTheFirstKeys := fun _ _ _ _ => ⟨rfl, rfl⟩

/-! ### The words between the rounds (R140, R143) -/

theorem encRounds_eq_encRound_pred (t : List Word) {r : Nat} (hr : 1 ≤ r) (x : Block) :
    encRounds t r x = encRound t r (encRounds t (r - 1) x) := by
  cases r with
  | zero => omega
  | succ r => rfl

/-- Undoing a round gives the words that stood before it. -/
theorem decRound_encRounds (t : List Word) {r : Nat} (hr : 1 ≤ r) (x : Block) :
    decRound t r (encRounds t r x) = encRounds t (r - 1) x := by
  rw [encRounds_eq_encRound_pred t hr, decRound_encRound]

theorem encRounds_forward_words (t : List Word) {r : Nat} (hr : 1 ≤ r) (x : Block) :
    (encRounds t r x).a = rotl ((encRounds t (r - 1) x).a ^^^ (encRounds t (r - 1) x).b)
      ((encRounds t (r - 1) x).b.toNat % 32) + entry t (2 * r) ∧
    (encRounds t r x).b = rotl ((encRounds t (r - 1) x).b ^^^ (encRounds t r x).a)
      ((encRounds t r x).a.toNat % 32) + entry t (2 * r + 1) := by
  rw [encRounds_eq_encRound_pred t hr, ← hrf_eq, ← hrf_eq]
  exact ⟨encRound_a t r _, encRound_b t r _⟩

theorem encRounds_backward_words (t : List Word) {r : Nat} (hr : 1 ≤ r) (x : Block) :
    (encRounds t (r - 1) x).b = rotr ((encRounds t r x).b - entry t (2 * r + 1))
      ((encRounds t r x).a.toNat % 32) ^^^ (encRounds t r x).a ∧
    (encRounds t (r - 1) x).a = rotr ((encRounds t r x).a - entry t (2 * r))
      ((encRounds t (r - 1) x).b.toNat % 32) ^^^ (encRounds t (r - 1) x).b := by
  rw [← decRound_encRounds t hr, ← hri_eq, ← hri_eq]
  exact ⟨decRound_b t r _, decRound_a t r _⟩

/-! ### The commands ENC and DEC (R142, R145) -/

/-- Settles O41: `A r`, `B r` are the words after the first `r` rounds on `X` with the first two table words added. -/
theorem encRunsTheRounds : Obligations.EncRunsTheRounds := by
  refine ⟨rfl, fun s => ⟨exec_enc_none s, fun hkv => ?_⟩⟩
  exact ⟨entry s.t, fun r => (encRounds s.t r ⟨s.x0 + entry s.t 0, s.x1 + entry s.t 1⟩).a,
    fun r => (encRounds s.t r ⟨s.x0 + entry s.t 0, s.x1 + entry s.t 1⟩).b, _, entry_of_lt s.t, rfl, rfl,
    fun r hr _ => encRounds_forward_words s.t hr _, exec_enc_instance s hkv, rfl⟩

/-- Settles O42: with all rounds undone on `X`, the words before round `r` is undone are those that the first `r`
rounds make again of what is left, since all of them make `X` again. -/
theorem decRunsTheRoundsBackwards : Obligations.DecRunsTheRoundsBackwards := by
  refine ⟨rfl, fun s => ⟨exec_dec_none s, fun hkv => ?_⟩⟩
  have hall := encRounds_decRounds s.t s.cfg.rounds.toNat s.block
  exact ⟨entry s.t, fun r => (encRounds s.t r (decRounds s.t s.cfg.rounds.toNat s.block)).a,
    fun r => (encRounds s.t r (decRounds s.t s.cfg.rounds.toNat s.block)).b, _, entry_of_lt s.t,
    congrArg Block.a hall, congrArg Block.b hall, fun r hr _ => encRounds_backward_words s.t hr _,
    exec_dec_instance s hkv, rfl⟩

/-- With a Cipher Instance the command applies `f` to the block, with the table and the round count (R142, R145). -/
def TransformsBlock (i : Instr) (f : List Word → Nat → Block → Block) : Prop :=
  ∀ s : State, s.kv = true → exec i s = .next ((s.transformBlock f).leaveRoundWork.answer 0)

theorem transformsBlock_enc : TransformsBlock .enc encrypt := exec_enc_instance

theorem transformsBlock_dec : TransformsBlock .dec decrypt := exec_dec_instance

/-- The first command leaves the table, the configuration and `KV` alone, so the second one undoes it. -/
theorem issueAll_pair_keeps_block {i j : Instr} {f g : List Word → Nat → Block → Block} (hi : TransformsBlock i f)
    (hj : TransformsBlock j g) (hinv : ∀ t rounds x, g t rounds (f t rounds x) = x) {s : State} (hkv : s.kv = true) :
    ∃ t, issueAll [i, j] s = .next (t, [.ok 0, .ok 0]) ∧ t.x0 = s.x0 ∧ t.x1 = s.x1 := by
  have hrun := issueAll_cons _ _ _ _ _ _ (hi s hkv) (issueAll_singleton _ _ _ (hj _ hkv))
  have hblock := hinv s.t s.cfg.rounds.toNat s.block
  exact ⟨_, hrun, congrArg Block.a hblock, congrArg Block.b hblock⟩

/-- Settles O43: the ciphers undo each other, and each command runs one of them on `X`. -/
theorem decryptAndEncryptAreInverse : Obligations.DecryptAndEncryptAreInverse :=
  ⟨fun t rounds x => ⟨decrypt_encrypt t rounds x, encrypt_decrypt t rounds x⟩, fun _ hkv =>
    ⟨issueAll_pair_keeps_block transformsBlock_enc transformsBlock_dec decrypt_encrypt hkv,
      issueAll_pair_keeps_block transformsBlock_dec transformsBlock_enc encrypt_decrypt hkv⟩⟩

end Sys2Proof.Machine
end

section
/-! PROOFS. The control commands (44_control_and_instance.md R160 to R164): the two words read, STATUS and CONFIG, by
their fields, and that no step changes the configuration. -/

namespace Sys2Proof.Machine

/-! ### NOP, CLRE, SRST -/

/-- Settles O12: NOP is the answer alone. -/
theorem nopOnlyAnswers : Obligations.NopOnlyAnswers := ⟨rfl, exec_nop⟩

/-- Settles O15: CLRE is the clearing of the sticky bits. -/
theorem clreClearsOnlyTheStickyBits : Obligations.ClreClearsOnlyTheStickyBits := ⟨rfl, exec_clre⟩

/-- Settles O16: SRST is the clearing R164 lists. -/
theorem srstClearsScalarsAndBlock : Obligations.SrstClearsScalarsAndBlock := ⟨rfl, exec_srst⟩

/-! ### RDST -/

/-- Fields side by side: the value of the upper one counts in units of the lower one's range. -/
theorem toNat_append_eq_add {n k : Nat} (high : BitVec n) (low : BitVec k) :
    (high ++ low).toNat = high.toNat * 2 ^ k + low.toNat := by
  rw [BitVec.toNat_append, ← Nat.shiftLeft_add_eq_or_of_lt low.isLt, Nat.shiftLeft_eq]

/-- The sum of R17: each field of `STATUS` times the weight of its lowest bit, the reserved fields being 0. -/
theorem State.status_toNat (s : State) : s.status.toNat =
    s.kv.toNat + 2 * s.ek.toNat + 256 * s.ekl.toNat + 512 * s.etb.toNat + 1024 * s.enk.toNat + 2048 * s.ebo.toNat
      + 4096 * s.eil.toNat + 65536 * s.klen.toNat + 33554432 * s.blen.toNat := by
  simp only [State.status, toNat_append_eq_add, BitVec.toNat_ofBool, BitVec.ofNat_eq_ofNat, BitVec.toNat_ofNat]
  omega

/-- The sticky bit of a cause stands at bit 7 plus its code (R20, 60_exceptions.md R180). -/
theorem State.status_getLsbD_sticky (s : State) (e : Error) : s.status.getLsbD (7 + e.code.toNat) = s.sticky e := by
  cases e
  all_goals
    simp only [State.status, BitVec.getLsbD_append, Error.code, State.sticky]
    simp

/-- Settles O13: RDST answers `STATUS`. -/
theorem rdstReturnsStatus : Obligations.RdstReturnsStatus :=
  ⟨rfl, fun s => ⟨s.status, exec_rdst s, s.status_toNat, s.status_getLsbD_sticky⟩⟩

/-! ### RDCF and the configuration (R162, 10_state.md R18) -/

theorem configWord_fields (c : Cfg) : (configWord c).extractLsb' 0 8 = (32 : BitVec 8) ∧
    (configWord c).extractLsb' 8 8 = c.rounds ∧ (configWord c).extractLsb' 16 10 = c.tableWords ∧
    (configWord c).extractLsb' 26 6 = (0 : BitVec 6) := by
  refine ⟨?_, ?_, ?_, ?_⟩
  all_goals
    apply BitVec.eq_of_toNat_eq
    simp only [BitVec.extractLsb'_toNat, Nat.shiftRight_eq_div_pow, configWord, toNat_append_eq_add, Config.wordWidth,
      BitVec.toNat_ofNat, BitVec.ofNat_eq_ofNat]
    omega

theorem effectOf_cfg (i : Instr) (s : State) : (effectOf i s).cfg = s.cfg := by
  cases i with
  | kpush b => exact s.pushKey_cfg b
  | kexp => rw [effectOf_kexp]; split <;> simp
  | bpush b => rw [effectOf_bpush]; split <;> rfl
  | ldx0 v => exact s.writeX_cfg 0 v
  | ldx1 v => exact s.writeX_cfg 1 v
  | enc => rw [effectOf_enc]; split <;> rfl
  | dec => rw [effectOf_dec]; split <;> rfl
  | _ => rfl

theorem State.respond_cfg (s : State) (r : Response) : (s.respond r).cfg = s.cfg := by
  cases r with
  | ok d => exact s.answer_cfg d
  | error e => exact s.raise_cfg e

theorem step_cfg {s t : State} (h : step s = .next t) : t.cfg = s.cfg := by
  rcases step_cases s t h with ⟨-, rfl⟩ | ⟨rest, -, rfl⟩ | ⟨w, rest, i, -, -, hexec⟩ | ⟨w, rest, why, -, -, rfl⟩
  case inl => rfl
  case inr.inl => exact State.hardReset_cfg _
  case inr.inr.inl => rw [eq_respond_of_exec hexec, State.respond_cfg, effectOf_cfg]
  case inr.inr.inr => exact State.raise_cfg _ _

/-- Settles O14: RDCF answers `CONFIG`, whose fields are the configuration's, and the four things a step can do keep
the configuration. -/
theorem rdcfReturnsTheConstantConfiguration : Obligations.RdcfReturnsTheConstantConfiguration :=
  ⟨rfl, rfl, fun s => ⟨configWord s.cfg, exec_rdcf s, configWord_fields s.cfg⟩, fun _ _ => step_cfg⟩

end Sys2Proof.Machine
end

section
/-! PROOFS. The construction of a Cipher Instance with SETKEY (44_control_and_instance.md R165). -/

namespace Sys2Proof.Machine

/-- A row of KPUSH counts its bytes up to 256 and appends them to the key material, as far as 255 are held in all; each
is answered with success (42_key_schedule.md R121). -/
theorem issueAll_kpush (key : List Byte) (s : State) (hklen : s.klen.toNat ≤ 256) : ∃ t,
    issueAll (key.map .kpush) s = .next (t, List.replicate key.length (.ok 0)) ∧
      t.klen.toNat = min (s.klen.toNat + key.length) 256 ∧
      (s.klen.toNat + key.length ≤ 255 → t.keyMaterial = s.keyMaterial ++ key) ∧ t.cfg = s.cfg := by
  induction key generalizing s with
  | nil => exact ⟨s, rfl, (Nat.min_eq_left hklen).symm, fun _ => (List.append_nil _).symm, rfl⟩
  | cons b key ih =>
    have hpush : ((s.pushKey b).answer 0).klen.toNat = min (s.klen.toNat + 1) 256 := s.pushKey_klen_toNat b hklen
    have hbytes : ((s.pushKey b).answer 0).keyMaterial = _ := s.keyMaterial_pushKey b
    obtain ⟨t, hrun, hcount, hkey, hcfg⟩ := ih ((s.pushKey b).answer 0) (by omega)
    refine ⟨t, issueAll_cons _ _ _ _ _ _ (exec_kpush b s) hrun, ?count, ?bytes, hcfg.trans (s.pushKey_cfg b)⟩
    case count => rw [hcount, hpush, List.length_cons]; omega
    case bytes =>
      intro hroom
      rw [List.length_cons] at hroom
      rw [hkey (by omega), hbytes, if_pos (by omega), List.append_assoc, List.singleton_append]

/-- KLOAD from any state: the key buffer holds the bytes, or is overfull, and the configuration stands. -/
theorem issueAll_kload (key : List Byte) (s : State) : ∃ t,
    issueAll (kload key) s = .next (t, List.replicate (key.length + 1) (.ok 0)) ∧
      t.klen.toNat = min key.length 256 ∧ (key.length ≤ 255 → t.keyMaterial = key) ∧ t.cfg = s.cfg := by
  have hzero : (s.clearKey.answer 0).klen.toNat = 0 := rfl
  have hempty : (s.clearKey.answer 0).keyMaterial = [] := rfl
  obtain ⟨t, hrun, hcount, hkey, hcfg⟩ := issueAll_kpush key (s.clearKey.answer 0) (hzero ▸ Nat.zero_le 256)
  rw [hzero, Nat.zero_add] at hcount hkey
  rw [hempty, List.nil_append] at hkey
  exact ⟨t, issueAll_cons _ _ _ _ _ _ (exec_kclr s) hrun, hcount, hkey, hcfg⟩

/-- Settles O27: KLOAD leaves the length and, up to 255 bytes, the bytes of the key; the three outcomes are those of
the checks of KEXP on them. -/
theorem setkeyConstructsTheInstance : Obligations.SetkeyConstructsTheInstance := by
  intro s key
  obtain ⟨u, hload, hcount, hkey, hcfg⟩ := issueAll_kload key s
  have hrun {t : State} {r : Response} (hexec : exec .kexp u = .next t) (hrsp : t.rsp = some r) :
      issueAll (setkey key) s = .next (t, List.replicate (key.length + 1) (.ok 0) ++ [r]) := by
    have hkexp := issueAll_singleton _ _ _ hexec
    rw [hrsp] at hkexp
    exact issueAll_append _ _ _ _ _ _ _ hload hkexp
  rw [← hcfg]
  rcases u.keyCheck_cases with ⟨hlong, hcheck⟩ | ⟨hklen, hsize, hcheck⟩ | ⟨hklen, hsize, hcheck⟩
  · refine ⟨_, _, hrun (exec_kexp_error u .keyLen hcheck) (State.raise_rsp _ _), ?_⟩
    rw [if_pos (by omega)]
    exact ⟨rfl, State.raise_kv _ _⟩
  · refine ⟨_, _, hrun (exec_kexp_error u .table hcheck) (State.raise_rsp _ _), ?_⟩
    rw [if_neg (by omega), if_pos hsize]
    exact ⟨rfl, State.raise_kv _ _⟩
  · have hbytes : u.keyMaterial = key := hkey (by omega)
    have hempty : u.klen = 0 ↔ key = [] := by rw [← u.keyMaterial_eq_nil_iff, hbytes]
    have hek : u.construct.ek = decide (key = []) := u.construct_ek.trans (decide_eq_decide.2 hempty)
    have htable : u.construct.t = expand key u.cfg.tableWords.toNat := by rw [u.construct_t, hbytes]
    refine ⟨_, _, hrun (exec_kexp_construct u hcheck) (State.answer_rsp _ _), ?_⟩
    rw [if_neg (by omega), if_neg (not_not.2 hsize)]
    exact ⟨by rw [hek, flagData_decide], u.construct_kv, hek, htable⟩

end Sys2Proof.Machine
end

section
/-! PROOFS. The single-block operations (44_control_and_instance.md R167) and the ECB procedures (R171, R172). -/

namespace Sys2Proof.Machine

section
variable {op : Instr} {f : List Word → Nat → Block → Block}

/-- The five commands of ENCBLK or DECBLK, for the command in the middle. -/
theorem issueAll_block_operation (hop : TransformsBlock op f) {s : State} (hkv : s.kv = true) (w0 w1 : Word) :
    ∃ t, issueAll (ldblk w0 w1 ++ [op] ++ rdblk) s = .next (t, [.ok 0, .ok 0, .ok 0,
      .ok (f s.t s.cfg.rounds.toNat ⟨w0, w1⟩).a, .ok (f s.t s.cfg.rounds.toNat ⟨w0, w1⟩).b]) :=
  ⟨_, issueAll_append _ _ _ _ _ _ _
    (issueAll_append _ _ _ _ _ _ _ (issueAll_ldblk w0 w1 s) (issueAll_singleton _ _ _ (hop _ hkv))) (issueAll_rdblk _)⟩

/-! ### What one turn of the ECB loop does -/

/-- The part of the state a turn of the loop reads and leaves alone: a Cipher Instance with this table and this number
of rounds. -/
structure State.HasInstance (s : State) (t : List Word) (rounds : Nat) : Prop where
  kv : s.kv = true
  table : s.t = t
  rounds : s.cfg.rounds.toNat = rounds

/-- The bytes of a block, as RDBYTES reads them. -/
def blockToBytes (x : Block) : List Byte := w2b [x.a, x.b]

theorem blockToBytes_length (x : Block) : (blockToBytes x).length = 8 := w2b_length _

theorem packBlock_blockToBytes (x : Block) : packBlock (blockToBytes x) = x := by
  rw [packBlock_eq, blockToBytes, b2w_w2b]
  rfl

theorem map_dataByte_byteData (bytes : List Byte) :
    (bytes.map fun b => Response.ok (byteData b)).map Response.dataByte = bytes := by
  simp [Function.comp_def, Response.dataByte, Response.data, byteData]

theorem ecbBlock_eq {chunk : List Byte} {s s₁ s₂ : State} {rs qs : List Response}
    (h₁ : issueAll (bload chunk ++ [op]) s = .next (s₁, rs)) (h₂ : issueAll rdbytes s₁ = .next (s₂, qs)) :
    ecbBlock op chunk s = .next (s₂, qs.map Response.dataByte) := by
  simp only [ecbBlock, h₁, h₂, thenRun_next]

/-- One turn: load, transform, read back (R171). -/
theorem ecbBlock_outcome (hop : TransformsBlock op f) {s : State} {t : List Word} {rounds : Nat}
    (hs : s.HasInstance t rounds) {chunk : List Byte} (hlen : chunk.length ≤ 8) :
    ∃ s', ecbBlock op chunk s = .next (s', blockToBytes (f t rounds (packBlock chunk))) ∧ s'.HasInstance t rounds := by
  obtain ⟨hkv, rfl, rfl⟩ := hs
  obtain ⟨bb, hload⟩ := issueAll_bload hlen s
  have hrun := issueAll_append _ _ _ _ _ _ _ hload (issueAll_singleton _ _ _ (hop _ hkv))
  obtain ⟨s', hread, hframe⟩ := issueAll_rdbytes _
  refine ⟨s', (ecbBlock_eq hrun hread).trans ?_, ?_⟩
  · rw [map_dataByte_byteData]
    rfl
  · rw [hframe]
    exact ⟨hkv, rfl, rfl⟩

/-! ### The whole loop, as a function on bytes -/

/-- `n` groups of 8 bytes, each packed, mapped by `g` and written out again. -/
def mapGroups (g : Block → Block) : Nat → List Byte → List Byte
  | 0, _ => []
  | n + 1, bytes => blockToBytes (g (packBlock (bytes.take 8))) ++ mapGroups g n (bytes.drop 8)

theorem ecbBlocks_succ {n : Nat} {bytes out rest : List Byte} {s s₁ s₂ : State}
    (h₁ : ecbBlock op (bytes.take 8) s = .next (s₁, out)) (h₂ : ecbBlocks op n (bytes.drop 8) s₁ = .next (s₂, rest)) :
    ecbBlocks op (n + 1) bytes s = .next (s₂, out ++ rest) := by
  simp only [ecbBlocks, h₁, h₂, thenRun_next]

theorem ecbBlocks_outcome (hop : TransformsBlock op f) {t : List Word} {rounds : Nat} (n : Nat) (bytes : List Byte)
    {s : State} (hs : s.HasInstance t rounds) :
    ∃ s', ecbBlocks op n bytes s = .next (s', mapGroups (f t rounds) n bytes) ∧ s'.HasInstance t rounds := by
  induction n generalizing bytes s with
  | zero => exact ⟨s, rfl, hs⟩
  | succ n ih =>
    obtain ⟨s₁, hfirst, hs₁⟩ := ecbBlock_outcome hop hs (List.length_take_le 8 bytes)
    obtain ⟨s₂, hrest, hs₂⟩ := ih (bytes.drop 8) hs₁
    exact ⟨s₂, ecbBlocks_succ hfirst hrest, hs₂⟩

end

theorem mapGroups_length (g : Block → Block) (n : Nat) (bytes : List Byte) : (mapGroups g n bytes).length = 8 * n := by
  induction n generalizing bytes with
  | zero => rfl
  | succ n ih => rw [mapGroups, List.length_append, blockToBytes_length, ih]; omega

/-- Group `q` of the output depends on group `q` of the input alone. -/
theorem mapGroups_group (g : Block → Block) {n q : Nat} (hq : q < n) (bytes : List Byte) :
    ((mapGroups g n bytes).drop (8 * q)).take 8 = blockToBytes (g (packBlock ((bytes.drop (8 * q)).take 8))) := by
  induction n generalizing q bytes with
  | zero => exact absurd hq (Nat.not_lt_zero q)
  | succ n ih =>
    rw [mapGroups]
    cases q with
    | zero => exact List.take_left' (blockToBytes_length _)
    | succ q =>
      rw [Nat.mul_succ, Nat.add_comm, ← List.drop_drop, List.drop_left' (blockToBytes_length _),
        ih (Nat.lt_of_succ_lt_succ hq), List.drop_drop]

theorem mapGroups_mapGroups (g g' : Block → Block) (n : Nat) (bytes : List Byte) :
    mapGroups g' n (mapGroups g n bytes) = mapGroups (g' ∘ g) n bytes := by
  induction n generalizing bytes with
  | zero => rfl
  | succ n ih =>
    rw [mapGroups, mapGroups, List.take_left' (blockToBytes_length _), List.drop_left' (blockToBytes_length _),
      packBlock_blockToBytes, ih]
    rfl

/-- The loop on the output makes as many turns as the loop that wrote it. -/
theorem turns_mapGroups (g : Block → Block) (n : Nat) (bytes : List Byte) :
    ((mapGroups g n bytes).length + 7) / 8 = n := by
  rw [mapGroups_length]; omega

/-! ### The padded form of a plaintext (R172) -/

/-- The words up to an even number, with a zero word. -/
def evenWords (ws : List Word) : List Word := if ws.length % 2 = 1 then ws ++ [0] else ws

theorem evenWords_pair_append {pair : List Word} (hpair : pair.length = 2) (ws : List Word) :
    evenWords (pair ++ ws) = pair ++ evenWords ws := by
  have hparity : (pair ++ ws).length % 2 = ws.length % 2 := by rw [List.length_append, hpair]; omega
  rw [evenWords, evenWords, hparity]
  split
  · exact List.append_assoc _ _ _
  · rfl

theorem evenWords_of_pair {pair : List Word} (hpair : pair.length = 2) : evenWords pair = pair := by
  rw [evenWords, hpair]
  rfl

/-- One or two words with the missing one 0 are the two words PACK takes. -/
theorem evenWords_eq_pair {ws : List Word} (hpos : 0 < ws.length) (hlen : ws.length ≤ 2) :
    evenWords ws = [ws.getD 0 0, ws.getD 1 0] := by
  match ws, hpos, hlen with
  | [_], _, _ => rfl
  | [_, _], _, _ => exact evenWords_of_pair rfl

/-- PACK pads the words of one group to two. -/
theorem blockToBytes_packBlock {chunk : List Byte} (hne : chunk ≠ []) (hlen : chunk.length ≤ 8) :
    blockToBytes (packBlock chunk) = w2b (evenWords (b2w chunk)) := by
  have hpos : 0 < chunk.length := List.length_pos_iff.2 hne
  have hwords : (b2w chunk).length = (chunk.length + 3) / 4 := b2w_length chunk
  rw [packBlock_eq, blockToBytes, evenWords_eq_pair (by omega) (by omega)]

/-- The first group is padded on its own: if it is whole it has two words, and otherwise nothing is behind it. -/
theorem evenWords_b2w_take_drop (bytes : List Byte) :
    evenWords (b2w bytes) = evenWords (b2w (bytes.take 8)) ++ evenWords (b2w (bytes.drop 8)) := by
  rcases Nat.lt_or_ge bytes.length 8 with hshort | hlong
  · rw [List.take_of_length_le hshort.le, List.drop_of_length_le hshort.le]
    exact (List.append_nil _).symm
  · have htake : (bytes.take 8).length = 4 * 2 := List.length_take_of_le hlong
    have hpair : (b2w (bytes.take 8)).length = 2 := by rw [b2w_length, htake]
    calc evenWords (b2w bytes) = evenWords (b2w (bytes.take 8 ++ bytes.drop 8)) := by rw [List.take_append_drop]
      _ = evenWords (b2w (bytes.take 8) ++ b2w (bytes.drop 8)) := by rw [b2w_append 2 _ _ htake]
      _ = b2w (bytes.take 8) ++ evenWords (b2w (bytes.drop 8)) := evenWords_pair_append hpair _
      _ = evenWords (b2w (bytes.take 8)) ++ evenWords (b2w (bytes.drop 8)) := by rw [evenWords_of_pair hpair]

/-- Packing the groups and writing them out again pads the words of the whole sequence to an even number. -/
theorem mapGroups_id (bytes : List Byte) :
    mapGroups id ((bytes.length + 7) / 8) bytes = w2b (evenWords (b2w bytes)) := by
  induction hn : (bytes.length + 7) / 8 generalizing bytes with
  | zero =>
    have hnil : bytes = [] := List.length_eq_zero_iff.1 (by omega)
    rw [hnil]
    rfl
  | succ n ih =>
    have hne : bytes.take 8 ≠ [] := List.length_pos_iff.1 (by rw [List.length_take]; omega)
    rw [mapGroups, ih (bytes.drop 8) (by rw [List.length_drop]; omega), id,
      blockToBytes_packBlock hne (List.length_take_le 8 bytes), ← w2b_append, ← evenWords_b2w_take_drop]

/-- Bytes that fill their groups are whole words, an even number of them, so nothing is padded. -/
theorem w2b_evenWords_b2w {bytes : List Byte} (hwhole : bytes.length % 8 = 0) :
    w2b (evenWords (b2w bytes)) = bytes := by
  rw [evenWords, if_neg (by rw [b2w_length]; omega)]
  exact w2b_b2w_whole (n := bytes.length / 4) (by omega)

/-! ### The statements -/

/-- Settles O45: the case of the single block for both commands. -/
theorem singleBlockOperations : Obligations.SingleBlockOperations := fun _ w0 w1 hkv =>
  ⟨issueAll_block_operation transformsBlock_enc hkv w0 w1, issueAll_block_operation transformsBlock_dec hkv w0 w1⟩

/-- The loop over all groups of the input transforms each on its own. -/
theorem ecb_transforms_each_group {op : Instr} {f : List Word → Nat → Block → Block} (hop : TransformsBlock op f)
    {s : State} (hkv : s.kv = true) (p : List Byte) :
    ∃ t out, ecbBlocks op ((p.length + 7) / 8) p s = .next (t, out) ∧ out.length = 8 * ((p.length + 7) / 8) ∧
      ∀ q < (p.length + 7) / 8, (out.drop (8 * q)).take 8 =
        blockToBytes (f s.t s.cfg.rounds.toNat (packBlock ((p.drop (8 * q)).take 8))) := by
  obtain ⟨t, hrun, -⟩ := ecbBlocks_outcome hop ((p.length + 7) / 8) p ⟨hkv, rfl, rfl⟩
  exact ⟨t, _, hrun, mapGroups_length _ _ _, fun _ hq => mapGroups_group _ hq p⟩

/-- Settles O53: `encryptEcb` and `decryptEcb` are the loop with ENC and with DEC. -/
theorem ecbTransformsEachBlock : Obligations.EcbTransformsEachBlock := fun _ p hkv =>
  ⟨ecb_transforms_each_group transformsBlock_enc hkv p, ecb_transforms_each_group transformsBlock_dec hkv p⟩

/-- Settles O54: the ciphertext has as many groups as the plaintext, and group by group decryption undoes encryption,
so what is left of the two loops is the padding. -/
theorem ecbRoundTrip : Obligations.EcbRoundTrip := by
  intro s p hkv
  obtain ⟨t, henc, ht⟩ := ecbBlocks_outcome transformsBlock_enc ((p.length + 7) / 8) p ⟨hkv, rfl, rfl⟩
  obtain ⟨t', hdec, -⟩ := ecbBlocks_outcome transformsBlock_dec ((p.length + 7) / 8)
    (mapGroups (encrypt s.t s.cfg.rounds.toNat) ((p.length + 7) / 8) p) ht
  have hundo : decrypt s.t s.cfg.rounds.toNat ∘ encrypt s.t s.cfg.rounds.toNat = id :=
    funext (decrypt_encrypt s.t s.cfg.rounds.toNat)
  rw [mapGroups_mapGroups, hundo, mapGroups_id] at hdec
  refine ⟨t, _, t', _, henc, ?_, rfl, w2b_evenWords_b2w⟩
  rw [decryptEcb, turns_mapGroups]
  exact hdec

end Sys2Proof.Machine
end

section
/-! PROOFS. Errors (60_exceptions.md): which command raises which one and when, and all that raising it changes (R181 to
R187); the empty key, which is no error (R190). -/

namespace Sys2Proof

/-- A table of fewer than two words is the wrong size for every number of rounds. -/
theorem Cfg.wrong_size_iff (c : Cfg) :
    (c.tableWords.toNat < 2 ∨ c.tableWords.toNat ≠ 2 * (c.rounds.toNat + 1)) ↔ ¬ c.WellFormed :=
  ⟨fun h hw => by unfold Cfg.WellFormed at hw; omega, .inr⟩

end Sys2Proof

namespace Sys2Proof.Machine

/-! ### The empty key (R190) -/

/-- Without key words no iteration touches `b`, so it keeps its start value (R128). -/
theorem mixRun_mixStart_nil_b (size k : Nat) : (mixRun k (mixStart [] size)).b = 0 := by
  induction k with
  | zero => rfl
  | succ k ih => exact (mixRun_mixStart_succ_b_no_key [] size k rfl).trans ih

theorem keySchedule_nil_l (size : Nat) : (keySchedule [] size).l = [] :=
  List.eq_nil_of_length_eq_zero (keySchedule_l_length [] size)

/-- Constructing from the empty key writes no key word. -/
theorem State.construct_empty_key {s : State} (hklen : s.klen = 0) : s.construct.l = s.l ∧ s.construct.lc = 0 := by
  rw [State.construct_l, State.construct_lc, s.keyMaterial_eq_nil_iff.2 hklen, keySchedule_nil_l]
  exact ⟨fillKeyWords_nil s.l, rfl⟩

/-- Settles O24: the empty key passes the checks, and the construction sets no sticky bit. -/
theorem emptyKeySucceedsWithAdvisory : Obligations.EmptyKeySucceedsWithAdvisory := by
  refine ⟨mixRun_mixStart_nil_b, fun s hklen hcfg => ?_⟩
  have hcheck : s.keyCheck = none := s.keyCheck_eq_none_iff.2 ⟨by simp [hklen], hcfg⟩
  have hek : s.construct.ek = true := s.construct_ek.trans (decide_eq_true hklen)
  obtain ⟨hl, hlc⟩ := State.construct_empty_key hklen
  refine ⟨_, exec_kexp_construct s hcheck, ?response, s.construct_kv, hek, hl, hlc, fun e => ?sticky⟩
  case response => rw [State.answer_rsp, hek]; rfl
  case sticky =>
    have heffect := sticky_effectOf .kexp s e (by decide) (by decide)
    rw [effectOf_kexp, if_pos hcheck] at heffect
    exact (State.sticky_answer _ _ e).trans heffect

/-! ### Who raises what (R181 to R185, R187) -/

theorem State.keyCheck_eq_keyLen_iff (s : State) : s.keyCheck = some .keyLen ↔ 255 < s.klen.toNat := by
  rcases s.keyCheck_cases with ⟨hlong, hcheck⟩ | ⟨hklen, -, hcheck⟩ | ⟨hklen, -, hcheck⟩
  · exact iff_of_true hcheck hlong
  · exact iff_of_false (by simp [hcheck]) (Nat.not_lt.2 hklen)
  · exact iff_of_false (by simp [hcheck]) (Nat.not_lt.2 hklen)

theorem State.keyCheck_eq_table_iff (s : State) :
    s.keyCheck = some .table ↔ s.klen.toNat ≤ 255 ∧ ¬ s.cfg.WellFormed := by
  rcases s.keyCheck_cases with ⟨hlong, hcheck⟩ | ⟨hklen, hsize, hcheck⟩ | ⟨-, hsize, hcheck⟩
  · exact iff_of_false (by simp [hcheck]) fun ⟨hklen, _⟩ => Nat.not_le.2 hlong hklen
  · exact iff_of_true hcheck ⟨hklen, hsize⟩
  · exact iff_of_false (by simp [hcheck]) fun ⟨_, hw⟩ => hw hsize

/-- The checks of KEXP find no other error. -/
theorem State.eq_keyLen_or_table_of_keyCheck {s : State} {e : Error} (h : s.keyCheck = some e) :
    e = .keyLen ∨ e = .table := by
  rcases s.keyCheck_cases with ⟨-, hcheck⟩ | ⟨-, -, hcheck⟩ | ⟨-, -, hcheck⟩
  · exact .inl (Option.some.inj (h.symm.trans hcheck))
  · exact .inr (Option.some.inj (h.symm.trans hcheck))
  · exact absurd (h.symm.trans hcheck) (by simp)

/-- The errors commands end with: those of the key check, of a missing Cipher Instance, and of a full block buffer. -/
theorem replyOf_eq_error_iff (i : Instr) (s : State) (e : Error) : replyOf i s = .error e ↔
    (i = .kexp ∧ s.keyCheck = some e) ∨ ((i = .enc ∨ i = .dec) ∧ s.kv = false ∧ e = .noKey) ∨
    ((∃ b, i = .bpush b) ∧ s.blen = 8 ∧ e = .bovf) := by
  cases i with
  | kexp => rcases hcheck : s.keyCheck with _ | e' <;> simp [replyOf, hcheck]
  | enc => rcases hkv : s.kv with _ | _ <;> simp [replyOf, hkv, eq_comm (a := e)]
  | dec => rcases hkv : s.kv with _ | _ <;> simp [replyOf, hkv, eq_comm (a := e)]
  | bpush b => by_cases hfull : s.blen = 8#4 <;> simp [replyOf, hfull, eq_comm (a := e)]
  | _ => simp [replyOf]

/-- When a command ends with the error, one rule of the spec per cause. -/
def Raises (i : Instr) (s : State) : Error → Prop
  | .keyLen => i = .kexp ∧ 255 < s.klen.toNat
  | .table => i = .kexp ∧ s.klen.toNat ≤ 255 ∧
      (s.cfg.tableWords.toNat < 2 ∨ s.cfg.tableWords.toNat ≠ 2 * (s.cfg.rounds.toNat + 1))
  | .noKey => (i = .enc ∨ i = .dec) ∧ s.kv = false
  | .bovf => (∃ b, i = .bpush b) ∧ s.blen = 8
  | .illegal => False

theorem replyOf_eq_error_iff_raises (i : Instr) (s : State) (e : Error) : replyOf i s = .error e ↔ Raises i s e := by
  have hother : e ≠ .keyLen → e ≠ .table → s.keyCheck ≠ some e := fun hlen htable h =>
    (State.eq_keyLen_or_table_of_keyCheck h).elim hlen htable
  rw [replyOf_eq_error_iff]
  cases e with
  | keyLen => simp [Raises, State.keyCheck_eq_keyLen_iff]
  | table =>
    rw [Raises, State.keyCheck_eq_table_iff, Cfg.wrong_size_iff]
    simp
  | noKey => simp [Raises, hother]
  | bovf => simp [Raises, hother]
  | illegal => simp [Raises, hother]

/-! ### Taking an error (R186) -/

theorem State.respond_rsp (s : State) (r : Response) : (s.respond r).rsp = some r := by
  cases r with
  | ok d => exact s.answer_rsp d
  | error e => exact s.raise_rsp e

theorem exec_rsp_eq_error_iff {i : Instr} {s t : State} (h : exec i s = .next t) (e : Error) :
    t.rsp = some (.error e) ↔ Raises i s e := by
  rw [eq_respond_of_exec h, State.respond_rsp, Option.some.injEq, replyOf_eq_error_iff_raises]

/-- The state with an error taken: one sticky bit more, and the response. -/
theorem State.raise_eq_withSticky (s : State) (e : Error) : s.raise e =
    { s.withSticky (s.ekl || decide (e = .keyLen)) (s.etb || decide (e = .table)) (s.enk || decide (e = .noKey))
        (s.ebo || decide (e = .bovf)) (s.eil || decide (e = .illegal)) with rsp := some (.error e) } := by
  cases e <;> simp [State.raise, State.setSticky, State.withSticky]

/-- What a command that ends with an error did before: KEXP ended the Cipher Instance, the others nothing. -/
theorem effectOf_of_replyOf_error {i : Instr} {s : State} {e : Error} (h : replyOf i s = .error e) :
    effectOf i s = if i = .kexp then s.endInstance else s := by
  rcases (replyOf_eq_error_iff i s e).1 h with ⟨rfl, hcheck⟩ | ⟨rfl | rfl, hkv, -⟩ | ⟨⟨b, rfl⟩, hfull, -⟩
  · simp [effectOf_kexp, hcheck]
  · simp [effectOf_enc, hkv]
  · simp [effectOf_dec, hkv]
  · simp [effectOf_bpush, hfull]

theorem eq_raise_of_exec_error {i : Instr} {s t : State} {e : Error} (h : exec i s = .next t)
    (hrsp : t.rsp = some (.error e)) : t = (if i = .kexp then s.endInstance else s).raise e := by
  have hreply : replyOf i s = .error e :=
    (replyOf_eq_error_iff_raises i s e).2 ((exec_rsp_eq_error_iff h e).1 hrsp)
  rw [eq_respond_of_exec h, hreply, effectOf_of_replyOf_error hreply, State.respond]

/-- Settles O46: each cause in turn, then the frame of a command that ends with an error. -/
theorem errorsAreRaisedAndTakenAsStated : Obligations.ErrorsAreRaisedAndTakenAsStated := by
  intro i s t h
  have hcause := exec_rsp_eq_error_iff h
  refine ⟨hcause .keyLen, hcause .table, hcause .noKey, hcause .bovf, (hcause .illegal).1, fun e hrsp => ⟨?code, ?frame⟩⟩
  case code => cases e <;> rfl
  case frame =>
    rw [eq_raise_of_exec_error h hrsp, State.raise_eq_withSticky]
    by_cases hkexp : i = .kexp
    · simp [hkexp, State.endInstance, State.withSticky]
    · simp [hkexp, State.withSticky]

end Sys2Proof.Machine
end

section
/-! PROOFS. A reset at the port (70_reset_and_hazards.md R211, R212) and power-up agree on all that is visible. -/

namespace Sys2Proof.Machine

/-- Clearing makes visibly the same any two states of one configuration with the same inputs to come and the same
response: both buffers are empty and `KV = 0`, so no array is visible (10_state.md R26, R31). -/
theorem SameVisible.softReset_of_port_eq {s₁ s₂ : State} (hcfg : s₁.cfg = s₂.cfg) (hin : s₁.inbox = s₂.inbox)
    (hrsp : s₁.rsp = s₂.rsp) : SameVisible s₁.softReset s₂.softReset where
  cfg := hcfg
  x0 := rfl
  x1 := rfl
  klen := rfl
  keyMaterial := rfl
  blen := rfl
  blockBytes := rfl
  kv := rfl
  table := fun hkv => absurd hkv Bool.false_ne_true
  ek := rfl
  ekl := rfl
  etb := rfl
  enk := rfl
  ebo := rfl
  eil := rfl
  inbox := hin
  rsp := hrsp

theorem State.softReset_hardReset (s : State) : s.hardReset.softReset = s.hardReset := rfl

/-- After `rst` the state is visibly the power-up state, with the inputs that were queued. -/
theorem State.hardReset_sameVisible_resetWith (s : State) :
    SameVisible s.hardReset { State.resetWith s.cfg with inbox := s.inbox } := by
  rw [← s.softReset_hardReset]
  exact SameVisible.softReset_of_port_eq (s₂ := { State.resetWith s.cfg with inbox := s.inbox }) rfl rfl rfl

/-- Settles O11: the step on `rst` is the hardware reset of the state without that input. -/
theorem resetInputCompletes : Obligations.ResetInputCompletes :=
  fun s rest hin => ⟨_, step_rst s rest hin, State.hardReset_sameVisible_resetWith { s with inbox := rest }⟩

end Sys2Proof.Machine
end
